-- ==== Sys2Proof/Word.lean ====
section
/-! DEFINITION. The word types of the HK4128 (00_scope.md, section 4) and the plain operand types of its commands.
A value is a bit vector where the spec treats it as bits or as a field of a word; a count is a Nat. -/

namespace Sys2Proof

/-- One byte lane (4.1). -/
abbrev Byte := BitVec 8

/-- One 32-bit word; lane 0 is bits 0 to 7 (4.1). -/
abbrev Word := BitVec 32

/-- A word address, 0 to 16,777,215 (4.1). -/
abbrev WordAddr := BitVec 24

/-- A 16-bit number that wraps (4.3), or a 16-bit field. -/
abbrev Half := BitVec 16

/-- Four lane enables, or a lane set; bit i is lane i (4.1). -/
abbrev LaneMask := BitVec 4

/-- One of the four lanes of a word. -/
abbrev LaneIx := Fin 4

/-- One of the four batch slots (R76). -/
abbrev SlotIx := Fin 4

/-- Four like things: the lanes of a word, or the batch slots. -/
structure Four (α : Type) where
  a0 : α
  a1 : α
  a2 : α
  a3 : α
deriving DecidableEq, Repr

/-- The item with number i. -/
def Four.get {α : Type} (f : Four α) (i : Fin 4) : α :=
  match i with
  | 0 => f.a0
  | 1 => f.a1
  | 2 => f.a2
  | 3 => f.a3

/-- The four with item i replaced. -/
def Four.set {α : Type} (f : Four α) (i : Fin 4) (v : α) : Four α :=
  match i with
  | 0 => { f with a0 := v }
  | 1 => { f with a1 := v }
  | 2 => { f with a2 := v }
  | 3 => { f with a3 := v }

/-- Four items made from their numbers. -/
def Four.of {α : Type} (g : Fin 4 → α) : Four α := ⟨g 0, g 1, g 2, g 3⟩

/-- Each item changed by the same function. -/
def Four.map {α β : Type} (g : α → β) (f : Four α) : Four β := ⟨g f.a0, g f.a1, g f.a2, g f.a3⟩

/-- What frame memory answers to a read (R150). -/
inductive ReadReply where
  | ok (data : Word)
  | error
deriving DecidableEq, Repr

/-- What frame memory answers to a write (R150). -/
inductive WriteReply where
  | ok
  | error
deriving DecidableEq, Repr

/-- The 23 parameter bytes of WIN_WRITE by field (Table 11-8), before any check. -/
structure WinParams where
  index      : Byte
  originWord : WordAddr
  originLane : Byte
  width      : Half
  height     : Half
  pitch      : Half
  format     : Byte
  mode       : Byte
  raster     : Byte
  keyEnable  : Byte
  keyValue   : Word
  keyMask    : Word
deriving DecidableEq, Repr

end Sys2Proof
end

