-- ==== Sys2Proof/Syntax.lean ====
section
/-! DEFINITION. The commands and events of the HK4128: one constructor for each row of spec/opcode_table.json, in the
table's order, with the row's operands. A setup command carries its parameter fields as Table 11-8 gives them. -/

namespace Sys2Proof

/-- The 46 operations and events. -/
inductive Instr where
  /-- CSn falls (R160). -/
  | transactionStart
  /-- CSn rises (R162, R177). -/
  | transactionEnd
  /-- A command byte that names no command (R162). -/
  | unknownCommand (code : Byte)
  | ident
  | status
  | events
  | clear (flags : Byte)
  | mask (bits : Byte)
  | winWrite (p : WinParams)
  | winRead (index : Byte)
  | winEnable (index : Byte)
  | winDisable (index : Byte)
  | marks (close release consumer : WordAddr)
  | ring (base : WordAddr) (sizeCode : Byte)
  | sync (source : Byte)
  | tick (cycles : Byte)
  | stall (limit : Half)
  | arbitration (share : Byte)
  | engage
  | disengage
  | discard
  | flush
  /-- COUNTERS with an option byte other than 0x01, which has a row of its own (R176). -/
  | counters (option : Byte)
  /-- COUNTERS with option 0x01 (R176). -/
  | countersClear
  | errinfo
  | softReset
  /-- RESETn falls (R178). -/
  | pinReset
  /-- RESETn rises (R178). -/
  | resetnRise
  | timeBaseTick
  | stallExpiry
  | blankStart
  | blankEnd
  | systemRead (word : WordAddr) (lanes : LaneMask)
  | systemWrite (word : WordAddr) (lanes : LaneMask) (data : Word)
  | refreshRead (word : WordAddr) (lanes : LaneMask)
  /-- The refresh port has no data in (Table 11-11). -/
  | refreshWrite (word : WordAddr) (lanes : LaneMask)
  | arbiterGrant
  | systemReadResponse (reply : ReadReply)
  | destinationReadResponse (reply : ReadReply)
  | immediateWriteResponse (reply : WriteReply)
  | drainReadResponse (reply : ReadReply)
  | drainWriteResponse (reply : WriteReply)
  | recordWriteResponse (reply : WriteReply)
  | refreshReadResponse (reply : ReadReply)
  /-- Eight SCLK edges: one byte in on SDI, one byte out on SDO (R160). -/
  | setupByteShifted (sdi : Byte)
  /-- The BLANK input takes a level (R99). -/
  | blankPinChange (high : Bool)
deriving DecidableEq, Repr

end Sys2Proof
end

