-- ==== Sys2Proof/Decode.lean ====
section
/-! DEFINITION. The bytes of the setup port: the command codes of Table 11-4, the parameter order of Table 11-8, and the
reading of a complete command from its bytes (R161, R181). No row of the opcode table has bits, so decodeTableWord answers
none on every word. -/

namespace Sys2Proof

/-- A complete setup command with its parameter fields (Tables 11-4 and 11-8). -/
inductive SetupCommand where
  | ident
  | status
  | events
  | clear (flags : Byte)
  | mask (bits : Byte)
  | winWrite (p : WinParams)
  | winRead (index : Byte)
  | winEnable (index : Byte)
  | winDisable (index : Byte)
  | marks (close release consumer : WordAddr)
  | ring (base : WordAddr) (sizeCode : Byte)
  | sync (source : Byte)
  | stall (limit : Half)
  | arbitration (share : Byte)
  | tick (cycles : Byte)
  | engage
  | disengage
  | discard
  | flush
  | counters (option : Byte)
  | errinfo
  | softReset
deriving DecidableEq, Repr

/-- Two bytes, most significant first (R181). -/
def bytes16 (v : BitVec 16) : List Byte := [v.extractLsb' 8 8, v.extractLsb' 0 8]

/-- Three bytes, most significant first (R181). -/
def bytes24 (v : BitVec 24) : List Byte := [v.extractLsb' 16 8, v.extractLsb' 8 8, v.extractLsb' 0 8]

/-- Four bytes, most significant first (R181). -/
def bytes32 (v : BitVec 32) : List Byte :=
  [v.extractLsb' 24 8, v.extractLsb' 16 8, v.extractLsb' 8 8, v.extractLsb' 0 8]

/-- The 16-bit field two bytes carry (R181). -/
def of16 (b1 b0 : Byte) : BitVec 16 := b1 ++ b0

/-- The 24-bit field three bytes carry (R181). -/
def of24 (b2 b1 b0 : Byte) : BitVec 24 := b2 ++ b1 ++ b0

/-- The 32-bit field four bytes carry (R181). -/
def of32 (b3 b2 b1 b0 : Byte) : BitVec 32 := b3 ++ b2 ++ b1 ++ b0

/-- The command byte (Table 11-4). -/
def SetupCommand.code : SetupCommand → Byte
  | .ident => 0x01
  | .status => 0x02
  | .events => 0x03
  | .clear _ => 0x04
  | .mask _ => 0x05
  | .winWrite _ => 0x10
  | .winRead _ => 0x11
  | .winEnable _ => 0x12
  | .winDisable _ => 0x13
  | .marks _ _ _ => 0x20
  | .ring _ _ => 0x21
  | .sync _ => 0x22
  | .stall _ => 0x23
  | .arbitration _ => 0x24
  | .tick _ => 0x25
  | .engage => 0x30
  | .disengage => 0x31
  | .discard => 0x32
  | .flush => 0x33
  | .counters _ => 0x40
  | .errinfo => 0x41
  | .softReset => 0x7F

/-- The parameter bytes in order (Table 11-8). -/
def SetupCommand.params : SetupCommand → List Byte
  | .clear f => [f]
  | .mask m => [m]
  | .winWrite p =>
    [p.index] ++ bytes24 p.originWord ++ [p.originLane] ++ bytes16 p.width ++ bytes16 p.height ++ bytes16 p.pitch
      ++ [p.format, p.mode, p.raster, p.keyEnable] ++ bytes32 p.keyValue ++ bytes32 p.keyMask
  | .winRead i => [i]
  | .winEnable i => [i]
  | .winDisable i => [i]
  | .marks c r k => bytes24 c ++ bytes24 r ++ bytes24 k
  | .ring b z => bytes24 b ++ [z]
  | .sync v => [v]
  | .stall l => bytes16 l
  | .arbitration v => [v]
  | .tick v => [v]
  | .counters o => [o]
  | .ident | .status | .events | .engage | .disengage | .discard | .flush | .errinfo | .softReset => []

/-- The bytes of the whole command, in the order the port receives them. -/
def SetupCommand.bytes (c : SetupCommand) : List Byte := c.code :: c.params

/-- The parameter count the command byte fixes, none for a byte that names no command (Table 11-4, R181). -/
def paramCount (code : Byte) : Option Nat :=
  match code.toNat with
  | 0x01 => some 0
  | 0x02 => some 0
  | 0x03 => some 0
  | 0x04 => some 1
  | 0x05 => some 1
  | 0x10 => some 23
  | 0x11 => some 1
  | 0x12 => some 1
  | 0x13 => some 1
  | 0x20 => some 9
  | 0x21 => some 4
  | 0x22 => some 1
  | 0x23 => some 2
  | 0x24 => some 1
  | 0x25 => some 1
  | 0x30 => some 0
  | 0x31 => some 0
  | 0x32 => some 0
  | 0x33 => some 0
  | 0x40 => some 1
  | 0x41 => some 0
  | 0x7F => some 0
  | _ => none

/-- A command whose parameter is one byte. -/
def parseByte (make : Byte → SetupCommand) : List Byte → Option SetupCommand
  | [b] => some (make b)
  | _ => none

/-- A command without parameters. -/
def parseNone (c : SetupCommand) : List Byte → Option SetupCommand
  | [] => some c
  | _ => none

/-- The 23 bytes of WIN_WRITE by field (Table 11-8). -/
def parseWinWrite : List Byte → Option SetupCommand
  | [ix, o2, o1, o0, ol, w1, w0, h1, h0, p1, p0, fm, md, rc, ke, v3, v2, v1, v0, m3, m2, m1, m0] =>
    some (.winWrite
      { index := ix, originWord := of24 o2 o1 o0, originLane := ol, width := of16 w1 w0, height := of16 h1 h0,
        pitch := of16 p1 p0, format := fm, mode := md, raster := rc, keyEnable := ke, keyValue := of32 v3 v2 v1 v0,
        keyMask := of32 m3 m2 m1 m0 })
  | _ => none

/-- The nine bytes of MARKS (Table 11-8). -/
def parseMarks : List Byte → Option SetupCommand
  | [c2, c1, c0, r2, r1, r0, k2, k1, k0] => some (.marks (of24 c2 c1 c0) (of24 r2 r1 r0) (of24 k2 k1 k0))
  | _ => none

/-- The four bytes of RING (Table 11-8). -/
def parseRing : List Byte → Option SetupCommand
  | [b2, b1, b0, z] => some (.ring (of24 b2 b1 b0) z)
  | _ => none

/-- The two bytes of STALL (Table 11-8). -/
def parseStall : List Byte → Option SetupCommand
  | [l1, l0] => some (.stall (of16 l1 l0))
  | _ => none

/-- The parameters of the command with the given code. -/
def parseParams (code : Byte) (ps : List Byte) : Option SetupCommand :=
  match code.toNat with
  | 0x01 => parseNone .ident ps
  | 0x02 => parseNone .status ps
  | 0x03 => parseNone .events ps
  | 0x04 => parseByte .clear ps
  | 0x05 => parseByte .mask ps
  | 0x10 => parseWinWrite ps
  | 0x11 => parseByte .winRead ps
  | 0x12 => parseByte .winEnable ps
  | 0x13 => parseByte .winDisable ps
  | 0x20 => parseMarks ps
  | 0x21 => parseRing ps
  | 0x22 => parseByte .sync ps
  | 0x23 => parseStall ps
  | 0x24 => parseByte .arbitration ps
  | 0x25 => parseByte .tick ps
  | 0x30 => parseNone .engage ps
  | 0x31 => parseNone .disengage ps
  | 0x32 => parseNone .discard ps
  | 0x33 => parseNone .flush ps
  | 0x40 => parseByte .counters ps
  | 0x41 => parseNone .errinfo ps
  | 0x7F => parseNone .softReset ps
  | _ => none

/-- The complete command the received bytes are, none while a byte is still wanted or the code names no command. -/
def parseCommand : List Byte → Option SetupCommand
  | [] => none
  | code :: ps => parseParams code ps

/-- The setup command a row stands for, none for a row that is no setup command. -/
def Instr.setupCommand : Instr → Option SetupCommand
  | .ident => some .ident
  | .status => some .status
  | .events => some .events
  | .clear f => some (.clear f)
  | .mask m => some (.mask m)
  | .winWrite p => some (.winWrite p)
  | .winRead i => some (.winRead i)
  | .winEnable i => some (.winEnable i)
  | .winDisable i => some (.winDisable i)
  | .marks c r k => some (.marks c r k)
  | .ring b z => some (.ring b z)
  | .sync v => some (.sync v)
  | .tick v => some (.tick v)
  | .stall l => some (.stall l)
  | .arbitration v => some (.arbitration v)
  | .engage => some .engage
  | .disengage => some .disengage
  | .discard => some .discard
  | .flush => some .flush
  | .counters o => some (.counters o)
  | .countersClear => some (.counters 0x01)
  | .errinfo => some .errinfo
  | .softReset => some .softReset
  | .transactionStart | .transactionEnd | .unknownCommand _ | .pinReset | .resetnRise | .timeBaseTick | .stallExpiry
  | .blankStart | .blankEnd | .systemRead _ _ | .systemWrite _ _ _ | .refreshRead _ _ | .refreshWrite _ _
  | .arbiterGrant | .systemReadResponse _ | .destinationReadResponse _ | .immediateWriteResponse _
  | .drainReadResponse _ | .drainWriteResponse _ | .recordWriteResponse _ | .refreshReadResponse _
  | .setupByteShifted _ | .blankPinChange _ => none

/-- No row of the opcode table gives bits, so no word spells a command (log entry 17). -/
def decodeTableWord (_nbits _w : Nat) : Option Instr := none

end Sys2Proof
end

