-- ==== Sys2Proof/Config.lean ====
section
/-! DEFINITION. The numbers that are fixed for the part (00_scope.md 1.3 and the rules named). The spec leaves no
value open that a command would have to pick, so there is no free value here. -/

namespace Sys2Proof.Config

/-- Hold buffer places (R32). -/
def holdCapacity : Nat := 1024

/-- Saturation of the event counters and of the 16-bit saturating counts (4.3, R175). -/
def countLimit : Nat := 65535

/-- Saturation of the 8-bit lost count and of a batch's memory error count (R136, R108). -/
def byteLimit : Nat := 255

/-- Records the record queue holds (R136). -/
def recordQueueDepth : Nat := 4

/-- Grants the record writer waits through before it goes ahead of the drain engine and the system path (R152). -/
def recordPatience : Nat := 32

/-- Byte positions of frame memory, 2^26 (4.1, R6). -/
def bytePositions : Nat := 67108864

/-- Words of frame memory (1.3). -/
def frameWords : Nat := 16777216

/-- Part code (R165). -/
def partCode : Half := 0x4128

/-- Revision (R165). -/
def revision : Byte := 0x02

/-- STALL setting after pin reset (R120). -/
def stallReset : Half := 20000

/-- SHARE setting after pin reset (R155). -/
def shareReset : Byte := 8

/-- TICK setting after pin reset (R96). -/
def tickReset : Byte := 25

/-- What SDO shifts out when there is nothing to say (R160). -/
def idleByte : Byte := 0xFF

end Sys2Proof.Config
end

