-- ==== Sys2Proof/Machine/State.lean ====
section
/-! DEFINITION. The state of the HK4128, block by block (00_scope.md, Figure 2-1), as plain data, and its value right
after reset. -/

namespace Sys2Proof.Machine

/-! ### The part and its windows -/

/-- The three part states (R168). -/
inductive PartState where
  | pass
  | engaged
  | quiescing
deriving DecidableEq, Repr

/-- Window pixel formats (Table 1-1). -/
inductive Format where
  | p8
  | p16
  | p32
deriving DecidableEq, Repr

/-- Window modes (Table 1-1). -/
inductive WinMode where
  | direct
  | defer
deriving DecidableEq, Repr

/-- One window definition, the twelve fields of Table 1-1 (R1). -/
structure Window where
  enabled    : Bool
  originWord : WordAddr
  originLane : BitVec 2
  width      : Half
  height     : Half
  pitch      : Half
  format     : Format
  mode       : WinMode
  raster     : BitVec 4
  keyEnable  : Bool
  keyValue   : Word
  keyMask    : Word
deriving DecidableEq, Repr

/-- Window fields after pin reset (Table 1-2, R2). -/
def Window.reset : Window :=
  { enabled := false, originWord := 0, originLane := 0, width := 4, height := 1, pitch := 1, format := .p8,
    mode := .direct, raster := 0xA, keyEnable := false, keyValue := 0, keyMask := 0xFFFFFFFF }

/-- The three watched words (R84). -/
structure Marks where
  close    : WordAddr
  release  : WordAddr
  consumer : WordAddr
deriving DecidableEq, Repr

/-- How the part learns of vertical blanking (R98). -/
inductive SyncSource where
  | blankHigh
  | blankLow
  | immediate
deriving DecidableEq, Repr

/-- The configuration: the "Kept" column of Table 10-5 (R177). -/
structure Settings where
  windows  : Vector Window 16
  /-- none while the watched words are unconfigured (R85) -/
  marks    : Option Marks
  ringBase : WordAddr
  /-- in records; 0 is unconfigured (R133) -/
  ringSize : Nat
  source   : SyncSource
  tick     : Byte
  stall    : Half
  share    : Byte
  mask     : Byte
deriving DecidableEq, Repr

/-- The configuration after pin reset (R178). -/
def Settings.reset : Settings :=
  { windows := Vector.replicate 16 Window.reset, marks := none, ringBase := 0, ringSize := 0, source := .blankHigh,
    tick := Config.tickReset, stall := Config.stallReset, share := Config.shareReset, mask := 0 }

/-! ### Setup port, events, counters -/

/-- Where the setup transaction stands (R160 to R164). CSn is high exactly in noTransaction. -/
inductive SetupPhase where
  /-- CSn is high. -/
  | noTransaction
  /-- CSn is low, and nothing is taken until it has risen (R164); that SDO stays undriven for so long is the model's choice
  once RESETn has risen (log entry 29). -/
  | blocked
  /-- The command in assembly: the bytes received so far (R160). -/
  | assembling (got : List Byte)
  /-- A command has executed; the result and response bytes still to shift out, and whether the whole result byte has
  been shifted out (R161, R177). -/
  | executed (out : List Byte) (resultOut : Bool)
deriving DecidableEq, Repr

/-- The setup port (R160). -/
structure SetupPort where
  phase            : SetupPhase
  /-- the byte last shifted out in this transaction; none: not driven, or no byte yet (R160, log entries 15 and 29) -/
  sdo              : Option Byte
  softResetPending : Bool
deriving DecidableEq, Repr

/-- The six result codes (R163). -/
inductive ResultCode where
  | ok
  | busy
  | range
  | state
  | unknown
  | conflict
deriving DecidableEq, Repr

/-- The eight events (Table 10-3). -/
inductive Event where
  | record
  | torn
  | forced
  | expiry
  | lost
  | memErr
  | ringErr
  | quiesced
deriving DecidableEq, Repr

/-- The eight event counters (Table 10-4); the ninth, the high-water mark, stands in the hold buffer (R55). -/
structure Counters where
  frames         : Nat
  batchesDrained : Nat
  tornBatches    : Nat
  forcedBatches  : Nat
  stalls         : Nat
  stallExpiries  : Nat
  recordsLost    : Nat
  memoryErrors   : Nat
deriving DecidableEq, Repr

/-- All eight counters at 0 (R175). -/
def Counters.zero : Counters :=
  { frames := 0, batchesDrained := 0, tornBatches := 0, forcedBatches := 0, stalls := 0, stallExpiries := 0,
    recordsLost := 0, memoryErrors := 0 }

/-- The four requesters at the memory port (Figure 9-1). -/
inductive Requester where
  | system
  | drain
  | record
  | refresh
deriving DecidableEq, Repr

/-- One recorded memory error (R158). -/
structure ErrInfo where
  word      : WordAddr
  requester : Requester
  /-- the direction: yes for a write -/
  isWrite   : Bool
deriving DecidableEq, Repr

/-- Event flags (bits of Table 11-7), counters and ERRINFO. -/
structure EventUnit where
  flags    : Byte
  counters : Counters
  errinfo  : Option ErrInfo
deriving DecidableEq, Repr

/-! ### Transforms and the hold buffer -/

/-- A word transform: 32 keep bits and 32 flip bits (4.4). -/
structure Transform where
  keep : Word
  flip : Word
deriving DecidableEq, Repr

/-- The identity transform (4.4). -/
def Transform.identity : Transform := { keep := 0xFFFFFFFF, flip := 0 }

/-- One hold-buffer entry, the five fields of R33. -/
structure Entry where
  word  : WordAddr
  slot  : SlotIx
  lanes : LaneMask
  xf    : Transform
deriving DecidableEq, Repr

/-- The hold buffer: the entries in creation order, oldest first (R34), and the high-water mark (R55). -/
structure HoldBuffer where
  entries   : List Entry
  highWater : Nat
deriving DecidableEq, Repr

/-! ### The batch queue -/

/-- The five slot states (R76). -/
inductive SlotState where
  | free
  | opened
  | closed
  | held
  | draining
deriving DecidableEq, Repr

/-- A slot record (R77). -/
structure Slot where
  state          : SlotState
  sequence       : Half
  tag            : Byte
  wasHeld        : Bool
  commandClosed  : Bool
  forceClosed    : Bool
  closeFrame     : Half
  torn           : Bool
  forced         : Bool
  memErr         : Bool
  entriesDrained : Nat
  rmwCount       : Nat
  memErrors      : Nat
  frameAtStart   : Half
  drainTime      : Nat
deriving DecidableEq, Repr

/-- A slot record with every field cleared (R77, R83). R77 gives the cleared value of every field but state and sequence;
state is FREE by R83, and the sequence 0 of a FREE slot is the model's choice (log entry 3): R77 lets no rule read it. -/
def Slot.cleared : Slot :=
  { state := .free, sequence := 0, tag := 0, wasHeld := false, commandClosed := false, forceClosed := false,
    closeFrame := 0, torn := false, forced := false, memErr := false, entriesDrained := 0, rmwCount := 0,
    memErrors := 0, frameAtStart := 0, drainTime := 0 }

/-- The batch queue: the four slots, the sequence counter (R78) and FLUSH's pending close (R128). -/
structure BatchQueue where
  slots        : Four Slot
  seqCounter   : Half
  pendingClose : Bool
deriving DecidableEq, Repr

/-- The batch queue after either reset (R83, R128); the slots' sequence is log entry 3's choice. -/
def BatchQueue.reset : BatchQueue :=
  { slots := ⟨Slot.cleared, Slot.cleared, Slot.cleared, Slot.cleared⟩, seqCounter := 0, pendingClose := false }

/-! ### Sync monitor and drain engine -/

/-- The sync monitor (R96, R99, R100). -/
structure SyncMonitor where
  clkCycles    : Byte
  /-- none under IMMEDIATE, which keeps no blanking state (R99) -/
  blanking     : Option Bool
  frameCounter : Half
deriving DecidableEq, Repr

/-- The step the current entry has reached (R101). -/
inductive Access where
  | none
  | readRequested
  | readInFlight
  | writeRequested
  | writeInFlight
deriving DecidableEq, Repr

/-- The drain engine (R101). It is busy exactly while there is a current slot. -/
structure DrainEngine where
  current  : Option SlotIx
  entry    : Option Entry
  access   : Access
  readData : Option Word
  setEnd   : Option Half
  horizon  : Option Half
  ticks    : Nat
deriving DecidableEq, Repr

/-- The drain engine after either reset (R101); the ticks carry no meaning while it is idle (log entry 3). -/
def DrainEngine.reset : DrainEngine :=
  { current := none, entry := none, access := .none, readData := none, setEnd := none, horizon := none, ticks := 0 }

/-! ### Stalls -/

/-- The three causes of a stall (R118). -/
inductive StallCause where
  /-- (a): a free place in the hold buffer -/
  | place
  /-- (b): a FREE slot -/
  | slot
  /-- (c): the part to be in PASS -/
  | pass
deriving DecidableEq, Repr

/-- The stall state (R118). -/
structure Stall where
  active          : Bool
  cause           : StallCause
  limit           : Half
  elapsed         : Half
  expired         : Bool
  forceCloseOwed  : Bool
deriving DecidableEq, Repr

/-- The stall state after either reset (R131); cause and limit carry no meaning while inactive (log entry 3). -/
def Stall.reset : Stall :=
  { active := false, cause := .place, limit := 0, elapsed := 0, expired := false, forceCloseOwed := false }

/-! ### Completion records -/

/-- A built record: the fields of Table 8-1 that are copied from the slot record (R135). -/
structure Rec where
  memErrors      : Nat
  sequence       : Half
  tag            : Byte
  torn           : Bool
  forced         : Bool
  memErr         : Bool
  wasHeld        : Bool
  forceClosed    : Bool
  commandClosed  : Bool
  entriesDrained : Nat
  rmwCount       : Nat
  frameAtStart   : Half
  drainTime      : Nat
deriving DecidableEq, Repr

/-- The four words of a record in the order they are written (R138). -/
inductive RecWord where
  | word1
  | word2
  | word3
  | word0
deriving DecidableEq, Repr

/-- The record writer (R137). -/
inductive Writer where
  | idle
  | requested (w : RecWord)
  | inFlight (w : RecWord)
deriving DecidableEq, Repr

/-- The record queue and writer: records oldest first, production count P, consumer count C, lost count (R136 to R141). -/
structure RecordUnit where
  records : List Rec
  writer  : Writer
  prod    : Half
  cons    : Half
  lost    : Nat
deriving DecidableEq, Repr

/-- The record queue and writer after either reset (R143). -/
def RecordUnit.reset : RecordUnit := { records := [], writer := .idle, prod := 0, cons := 0, lost := 0 }

/-! ### The system port -/

/-- Which watched word a full-word write addresses (R56, R73). -/
inductive MarkKind where
  | close
  | release
  | consumer
deriving DecidableEq, Repr

/-- The six lane classes (Table 4-1). -/
inductive LaneClass where
  | idle
  | keyedOut
  | carried
  | deferred
  | direct
  | plain
deriving DecidableEq, Repr

/-- Where a write in progress stands (Table 4-2). -/
inductive WritePhase where
  /-- stalled in step 1 for a place, cause (a) -/
  | waitPlace
  /-- stalled in step 1 for a FREE slot, cause (b) -/
  | waitSlot
  /-- stalled for PASS, cause (c) -/
  | waitPass
  /-- step 2, waiting at the arbiter -/
  | destRequested
  /-- step 2, granted -/
  | destInFlight
  /-- stalled in step 3 for a place, cause (a) (R66) -/
  | waitCommitPlace
  /-- step 4, waiting at the arbiter -/
  | writeRequested
  /-- step 4, granted -/
  | writeInFlight
deriving DecidableEq, Repr

/-- What the system port keeps with a write until it answers (R56). -/
structure WriteJob where
  word        : WordAddr
  lanes       : LaneMask
  data        : Word
  mark        : Option MarkKind
  classes     : Four LaneClass
  xf          : Transform
  /-- the write holds a reserved place (R39) -/
  reserved    : Bool
  /-- the data of the destination read (R62) -/
  readData    : Option Word
  /-- accepted in PASS, or to be completed as a plain write (R69, R70, R72) -/
  plain       : Bool
  /-- DISENGAGE has executed during the destination read: the commit is refused (R44, R71) -/
  leftEngaged : Bool
  phase       : WritePhase
deriving DecidableEq, Repr

/-- A read that has issued a memory read (R46, R48). -/
structure ReadJob where
  word      : WordAddr
  lanes     : LaneMask
  /-- the word had entries at acceptance -/
  forwarded : Bool
  /-- its memory read has been granted -/
  granted   : Bool
  /-- the snapshot taken at the grant -/
  snapshot  : Transform
deriving DecidableEq, Repr

/-- The system request in progress (R146). -/
inductive SysPort where
  | idle
  | read (r : ReadJob)
  | write (w : WriteJob)
deriving DecidableEq, Repr

/-- What a port answers its master (R146): a read answered OK carries data. -/
inductive Answer where
  | ok
  | data (d : Word)
  | error
deriving DecidableEq, Repr

/-- The refresh request in progress (R148). -/
inductive RefreshPort where
  | idle
  | waiting (word : WordAddr) (lanes : LaneMask)
  | inFlight
deriving DecidableEq, Repr

/-! ### The memory port and the arbiter -/

/-- The requests the four requesters make (Figure 9-1). -/
inductive ReqKind where
  | systemRead
  | destinationRead
  | immediateWrite
  | drainRead
  | drainWrite
  | recordWrite
  | refreshRead
deriving DecidableEq, Repr

/-- The requester of a request (Figure 9-1). -/
def ReqKind.requester : ReqKind → Requester
  | .systemRead => .system
  | .destinationRead => .system
  | .immediateWrite => .system
  | .drainRead => .drain
  | .drainWrite => .drain
  | .recordWrite => .record
  | .refreshRead => .refresh

/-- The direction of a request: yes for a write. -/
def ReqKind.isWrite : ReqKind → Bool
  | .immediateWrite => true
  | .drainWrite => true
  | .recordWrite => true
  | .systemRead => false
  | .destinationRead => false
  | .drainRead => false
  | .refreshRead => false

/-- A memory request: word address, direction, four lane enables and, for a write, data (R150). -/
structure MemRequest where
  kind  : ReqKind
  word  : WordAddr
  lanes : LaneMask
  data  : Word
deriving DecidableEq, Repr

/-- The request in flight at the memory port (R150), and whether it was granted before a reset or while RESETn was low,
so that an ERROR to it is not reported (R159) and its drain or record requester discards its response (R115, R143). -/
structure InFlight where
  req    : MemRequest
  cutOff : Bool
deriving DecidableEq, Repr

/-- The arbiter's three wait counts (R154). -/
structure Waits where
  record : Nat
  drain  : Nat
  system : Nat
deriving DecidableEq, Repr

/-- All three wait counts at 0 (R156). -/
def Waits.zero : Waits := { record := 0, drain := 0, system := 0 }

/-! ### The whole part -/

/-- The state of the HK4128 and the queue of commands that are waiting. -/
structure State where
  /-- the level of RESETn: yes is high (R178) -/
  resetn        : Bool
  /-- the level of BLANK: yes is high (R99) -/
  blank         : Bool
  cfg           : Settings
  part          : PartState
  setup         : SetupPort
  ev            : EventUnit
  buf           : HoldBuffer
  batch         : BatchQueue
  sync          : SyncMonitor
  drain         : DrainEngine
  stall         : Stall
  recs          : RecordUnit
  sys           : SysPort
  sysAnswer     : Option Answer
  refresh       : RefreshPort
  refreshAnswer : Option Answer
  waits         : Waits
  inFlight      : Option InFlight
  pending       : List Instr
deriving DecidableEq, Repr

/-- The machine right after a pin reset: RESETn has just risen (R178), CSn is high, BLANK is low and nothing is in
progress at the bus ports (log entries 2 and 3). -/
def State.reset : State :=
  { resetn := true, blank := false, cfg := Settings.reset, part := .pass,
    setup := { phase := .noTransaction, sdo := none, softResetPending := false },
    ev := { flags := 0, counters := Counters.zero, errinfo := none },
    buf := { entries := [], highWater := 0 }, batch := BatchQueue.reset,
    sync := { clkCycles := 0, blanking := some false, frameCounter := 0 }, drain := DrainEngine.reset,
    stall := Stall.reset, recs := RecordUnit.reset, sys := .idle, sysAnswer := none, refresh := .idle,
    refreshAnswer := none, waits := Waits.zero, inFlight := none, pending := [] }

/-- Why the model stops with a fault. The part itself never stops; both reasons are sequences of commands that the
hardware cannot produce. -/
inductive Fault where
  /-- Raised by the seven memory response rows when no request of that row is in flight: frame memory answers a granted
  request and nothing else (R150). Safe: the model stops where the spec gives no effect (log entry 7). -/
  | noSuchRequestInFlight
  /-- Raised by a setup-command row when the bytes in assembly are not the first bytes of that command, and by
  UNKNOWN_COMMAND when its byte names a command: the bytes on SDI spell another command (R160, R181). Safe: the model
  stops on an event that cannot occur (log entry 6). -/
  | notTheCommandInAssembly
deriving DecidableEq, Repr

/-- Why the model refuses. -/
inductive Refusal where
  /-- Raised by an arm of exec whose row has no meaning yet; no arm raises it. Safe: the model stops. -/
  | notModelled (mnemonic : String)
deriving DecidableEq, Repr

/-- What one step or one command answers. -/
abbrev Result := Host.Outcome State Fault Refusal

end Sys2Proof.Machine
end

