-- ==== Sys2Proof/Machine/Flags.lean ====
section
/-! DEFINITION. Event flags, IRQn, counters and memory error reports (10.4, 10.5, 9.5). -/

namespace Sys2Proof.Machine

/-- The flag bit of an event (Table 11-7). -/
def Event.bit : Event → Byte
  | .record => 0x01
  | .torn => 0x02
  | .forced => 0x04
  | .expiry => 0x08
  | .lost => 0x10
  | .memErr => 0x20
  | .ringErr => 0x40
  | .quiesced => 0x80

/-- Raising an event sets its flag; a flag already set stays set (R172). -/
def raise (e : Event) (s : State) : State := { s with ev.flags := s.ev.flags ||| e.bit }

/-- Whether an event's flag is set. -/
def flagSet (e : Event) (s : State) : Bool := s.ev.flags &&& e.bit != 0#8

/-- Whether the part drives IRQn low: some flag is set whose mask bit is 1 (R174); undriven while RESETn is low. -/
def irqLow (s : State) : Bool := s.resetn && (s.ev.flags &&& s.cfg.mask != 0#8)

/-- One more, staying at the limit (4.3). -/
def satInc (limit n : Nat) : Nat := if n < limit then n + 1 else n

/-- One more of a 16-bit event counter, saturating at 65,535 (R175). -/
def countUp (n : Nat) : Nat := satInc Config.countLimit n

/-- The counters of the event unit changed by a function. -/
def modCounters (g : Counters → Counters) (s : State) : State := { s with ev.counters := g s.ev.counters }

/-- One more blank start (R100). -/
def Counters.addFrame (c : Counters) : Counters := { c with frames := countUp c.frames }

/-- One more completed batch (R110). -/
def Counters.addDrained (c : Counters) : Counters := { c with batchesDrained := countUp c.batchesDrained }

/-- One more torn batch (R109). -/
def Counters.addTorn (c : Counters) : Counters := { c with tornBatches := countUp c.tornBatches }

/-- One more forced batch (R126). -/
def Counters.addForced (c : Counters) : Counters := { c with forcedBatches := countUp c.forcedBatches }

/-- One more stall (R119). -/
def Counters.addStall (c : Counters) : Counters := { c with stalls := countUp c.stalls }

/-- One more stall expiry (R121). -/
def Counters.addExpiry (c : Counters) : Counters := { c with stallExpiries := countUp c.stallExpiries }

/-- One more dropped record (R136). -/
def Counters.addLost (c : Counters) : Counters := { c with recordsLost := countUp c.recordsLost }

/-- One more reported memory error (R157). -/
def Counters.addMemoryError (c : Counters) : Counters := { c with memoryErrors := countUp c.memoryErrors }

/-- The report every memory ERROR has: MEMERR, the Memory errors counter, and ERRINFO when it is empty (R157, R158). -/
def reportError (f : InFlight) (s : State) : State :=
  if f.cutOff then s
  else
    let s := modCounters Counters.addMemoryError (raise .memErr s)
    match s.ev.errinfo with
    | some _ => s
    | none =>
      let e : ErrInfo := { word := f.req.word, requester := f.req.kind.requester, isWrite := f.req.kind.isWrite }
      { s with ev.errinfo := some e }

end Sys2Proof.Machine
end

