-- ==== Sys2Proof/Machine/Operands.lean ====
section
/-! DEFINITION. Lanes, bytes and words (00_scope.md 4.1), lane transforms and their composition (chapter 2). -/

namespace Sys2Proof.Machine

/-- All ones or all zeros. -/
def fillByte (b : Bool) : Byte := if b then 0xFF else 0x00

/-- The byte of a word on one lane (4.1). -/
def laneByte (w : Word) (i : LaneIx) : Byte := w.extractLsb' (8 * i.val) 8

/-- The word with the given byte on each lane (4.1). -/
def wordOfLanes (f : Four Byte) : Word := f.a3 ++ f.a2 ++ f.a1 ++ f.a0

/-- Whether lane i is in a lane mask. -/
def hasLane (m : LaneMask) (i : LaneIx) : Bool := m.getLsbD i.val

/-- The lane mask of the lanes marked yes. -/
def maskOfLanes (f : Four Bool) : LaneMask :=
  BitVec.ofBool f.a3 ++ BitVec.ofBool f.a2 ++ BitVec.ofBool f.a1 ++ BitVec.ofBool f.a0

/-- The word with 0xFF on each lane of the mask and 0x00 elsewhere. -/
def laneBits (m : LaneMask) : Word := wordOfLanes (Four.of fun i => fillByte (hasLane m i))

/-- Every lane enabled. -/
def allLanes : LaneMask := 0xF

/-- The byte position of a lane of a word (4.1). -/
def bytePosition (w : WordAddr) (i : LaneIx) : Nat := 4 * w.toNat + i.val

/-! ### Raster codes -/

/-- The result of code c for the source byte S where every destination bit is d: bit (2 × D + S) of c (R19). -/
def rasterResult (c : BitVec 4) (src : Byte) (d : Bool) : Byte :=
  let base := if d then 2 else 0
  (src &&& fillByte (c.getLsbD (base + 1))) ||| (~~~src &&& fillByte (c.getLsbD base))

/-- The flip bits of a lane: the result for D = 0 (R20). -/
def rasterFlip (c : BitVec 4) (src : Byte) : Byte := rasterResult c src false

/-- The keep bits of a lane: the exclusive or of the results for D = 0 and D = 1 (R20). -/
def rasterKeep (c : BitVec 4) (src : Byte) : Byte := rasterResult c src false ^^^ rasterResult c src true

/-! ### Applying and composing -/

/-- (V AND keep) XOR flip (R23). -/
def Transform.apply (t : Transform) (v : Word) : Word := (v &&& t.keep) ^^^ t.flip

/-- First t, then u (R28). -/
def Transform.andThen (t u : Transform) : Transform :=
  { keep := t.keep &&& u.keep, flip := (t.flip &&& u.keep) ^^^ u.flip }

/-- The transform on the lanes of the mask, identity elsewhere (R42). -/
def Transform.restrict (t : Transform) (m : LaneMask) : Transform :=
  { keep := t.keep ||| ~~~laneBits m, flip := t.flip &&& laneBits m }

/-- Whether the transform is identity on one lane (4.4). -/
def Transform.isIdentityOn (t : Transform) (i : LaneIx) : Bool :=
  laneByte t.keep i == 0xFF#8 && laneByte t.flip i == 0x00#8

/-- Whether some keep bit of the lanes of the mask is 1 (R27, R105). -/
def Transform.needsRead (t : Transform) (m : LaneMask) : Bool := t.keep &&& laneBits m != 0#32

/-- The plain transform of the enabled lanes: keep 0x00 and the written byte (R22), identity elsewhere (R18). -/
def plainTransform (lanes : LaneMask) (data : Word) : Transform :=
  { keep := ~~~laneBits lanes, flip := data &&& laneBits lanes }

/-! ### Watched-word values -/

/-- The tag of a close value: lane 0 (R86). -/
def closeTag (v : Word) : Byte := laneByte v 0

/-- The hold request of a close value: any nonzero byte on lane 1 (R86). -/
def closeHold (v : Word) : Bool := laneByte v 1 != 0#8

/-- The consumer count of a consumer value: bits 0 to 15 (R141, Table 11-2). -/
def consumerCount (v : Word) : Half := v.extractLsb' 0 16

end Sys2Proof.Machine
end

