-- ==== Sys2Proof/Machine/Ops.lean ====
section
/-! DEFINITION. The named operations over the hold buffer, the slots and the ports that the meanings share. -/

namespace Sys2Proof.Machine

/-! ### Hold buffer: places and lookups (chapter 3) -/

/-- Occupancy: the number of entries (R32). -/
def occupancy (s : State) : Nat := s.buf.entries.length

/-- Whether the write in progress holds the reservation (R39). -/
def reservationHeld (s : State) : Bool :=
  match s.sys with
  | .write w => w.reserved
  | .read _ => false
  | .idle => false

/-- Places in use: entries and the reservation (R32). -/
def placesUsed (s : State) : Nat := occupancy s + (if reservationHeld s then 1 else 0)

/-- Whether a place is free (R32). -/
def placeFree (s : State) : Bool := placesUsed s < Config.holdCapacity

/-- The entry of a word in one batch slot (R32: at most one). -/
def findEntry (word : WordAddr) (i : SlotIx) (s : State) : Option Entry :=
  s.buf.entries.find? fun e => e.word == word && e.slot == i

/-- Whether some entry is for the word (R46). -/
def wordHasEntry (word : WordAddr) (s : State) : Bool := s.buf.entries.any fun e => e.word == word

/-- The held lanes of a word: the lanes of every entry for it (R37). -/
def heldLanes (word : WordAddr) (s : State) : LaneMask :=
  s.buf.entries.foldr (fun e m => if e.word == word then m ||| e.lanes else m) 0#4

/-- Whether a slot holds entries (R35). -/
def slotHasEntries (i : SlotIx) (s : State) : Bool := s.buf.entries.any fun e => e.slot == i

/-- The oldest entry of a slot in creation order (R34, R35). -/
def oldestEntry (i : SlotIx) (s : State) : Option Entry := s.buf.entries.find? fun e => e.slot == i

/-- The high-water mark follows the occupancy upwards (R55). -/
def HoldBuffer.liftMark (b : HoldBuffer) : HoldBuffer := { b with highWater := max b.highWater b.entries.length }

/-- A new entry takes the youngest position (R34, R44, R55). -/
def addEntry (e : Entry) (s : State) : State :=
  { s with buf := HoldBuffer.liftMark { s.buf with entries := s.buf.entries ++ [e] } }

/-- The write's lanes composed into an existing entry (R43). -/
def Entry.compose (e : Entry) (lanes : LaneMask) (t : Transform) : Entry :=
  { e with lanes := e.lanes ||| lanes, xf := e.xf.andThen t }

/-- The entry of a word in a slot gets the write's lanes; its position does not change (R43). -/
def composeEntry (word : WordAddr) (i : SlotIx) (lanes : LaneMask) (t : Transform) (s : State) : State :=
  let entries := s.buf.entries.map fun e => if e.word == word && e.slot == i then e.compose lanes t else e
  { s with buf.entries := entries }

/-- The entry of a word in a slot leaves the buffer; the others keep their order (R51, R52, R34). -/
def removeEntry (word : WordAddr) (i : SlotIx) (s : State) : State :=
  { s with buf.entries := s.buf.entries.filter fun e => !(e.word == word && e.slot == i) }

/-- Every entry of a slot leaves the buffer (R53). -/
def removeSlotEntries (i : SlotIx) (s : State) : State :=
  { s with buf.entries := s.buf.entries.filter fun e => !(e.slot == i) }

/-! ### Slots and batch age (chapter 5) -/

/-- The record of a slot (R77). -/
def slotOf (i : SlotIx) (s : State) : Slot := s.batch.slots.get i

/-- One slot record replaced. -/
def setSlot (i : SlotIx) (v : Slot) (s : State) : State := { s with batch.slots := s.batch.slots.set i v }

/-- One slot record changed by a function. -/
def modSlot (i : SlotIx) (g : Slot → Slot) (s : State) : State := setSlot i (g (slotOf i s)) s

/-- The state of a slot (R76). -/
def slotState (i : SlotIx) (s : State) : SlotState := (slotOf i s).state

/-- How many batches have opened since, this one counted: greater is older (R79, log entry 16). -/
def age (seq : Half) (s : State) : Nat := (s.batch.seqCounter - seq).toNat

/-- The age of the batch in a slot. -/
def slotAge (i : SlotIx) (s : State) : Nat := age (slotOf i s).sequence s

/-- The lowest-numbered slot whose state passes a test. -/
def lowestSlot (p : SlotState → Bool) (s : State) : Option SlotIx :=
  [0, 1, 2, 3].find? fun i => p (slotState i s)

/-- The lowest-numbered FREE slot (R81). -/
def freeSlot (s : State) : Option SlotIx := lowestSlot (· == .free) s

/-- The slot that is OPEN (R80). -/
def openSlot (s : State) : Option SlotIx := lowestSlot (· == .opened) s

/-- A slot put into a list of slots kept oldest first. -/
def insertByAge (i : SlotIx) (s : State) : List SlotIx → List SlotIx
  | [] => [i]
  | j :: l => if slotAge i s > slotAge j s then i :: j :: l else j :: insertByAge i s l

/-- The batches in flight, oldest first (R79). -/
def queueOrder (s : State) : List SlotIx :=
  ([0, 1, 2, 3].filter fun i => slotState i s != .free).foldr (fun i l => insertByAge i s l) []

/-- The non-OPEN batches in flight, oldest first. -/
def nonOpenQueue (s : State) : List SlotIx := (queueOrder s).filter fun i => slotState i s != .opened

/-- The oldest non-OPEN batch (R79). -/
def oldestNonOpen (s : State) : Option SlotIx := (nonOpenQueue s).head?

/-- The youngest non-OPEN batch (R123). -/
def youngestNonOpen (s : State) : Option SlotIx := (nonOpenQueue s).getLast?

/-- The oldest HELD batch (R91). -/
def oldestHeld (s : State) : Option SlotIx := (queueOrder s).find? fun i => slotState i s == .held

/-- The oldest non-OPEN batch that holds an entry (R124). -/
def oldestNonOpenWithEntry (s : State) : Option SlotIx := (nonOpenQueue s).find? fun i => slotHasEntries i s

/-- Whether every slot is FREE (R171). -/
def allFree (s : State) : Bool := [0, 1, 2, 3].all fun i => slotState i s == .free

/-- The entries of a word, oldest batch first (R36). -/
def wordEntries (word : WordAddr) (s : State) : List Entry :=
  (queueOrder s).filterMap fun i => findEntry word i s

/-- The composition of a word's entries, oldest batch first (R36, R28). -/
def composed (word : WordAddr) (s : State) : Transform :=
  (wordEntries word s).foldl (fun t e => t.andThen e.xf) Transform.identity

/-! ### The ports -/

/-- The system port delivers its answer and has no request in progress (R147). -/
def answerSystem (a : Answer) (s : State) : State := { s with sys := .idle, sysAnswer := some a }

/-- The write in progress as it now stands. -/
def setWrite (w : WriteJob) (s : State) : State := { s with sys := .write w }

/-- The refresh port delivers its answer (R148). -/
def answerRefresh (a : Answer) (s : State) : State := { s with refresh := .idle, refreshAnswer := some a }

/-- What a port passes on of a memory read's answer (R148, R157). -/
def readAnswer : ReadReply → Answer
  | .ok d => .data d
  | .error => .error

/-- What the system port passes on of a memory write's answer (R68). -/
def writeAnswer : WriteReply → Answer
  | .ok => .ok
  | .error => .error

/-- Whether memory answered a read with ERROR. -/
def readFailed : ReadReply → Bool
  | .ok _ => false
  | .error => true

/-- Whether memory answered a write with ERROR. -/
def writeFailed : WriteReply → Bool
  | .ok => false
  | .error => true

/-- The response of the request in flight arrives: the port is idle again (R150), and an ERROR is reported (R157). -/
def takeResponse (f : InFlight) (isError : Bool) (s : State) : State :=
  let s := { s with inFlight := none }
  if isError then reportError f s else s

/-- The request in flight when it is of the given kind. -/
def inFlightOf (k : ReqKind) (s : State) : Option InFlight :=
  match s.inFlight with
  | some f => if f.req.kind = k then some f else none
  | none => none

/-! ### Stalls (7.1) -/

/-- A stall begins (R119). -/
def beginStall (c : StallCause) (s : State) : State :=
  let t : Stall :=
    { active := true, cause := c, limit := s.cfg.stall, elapsed := 0, expired := false, forceCloseOwed := false }
  modCounters Counters.addStall { s with stall := t }

/-- A stall ends: it is inactive, and an owed force-close lapses (R121, R125). -/
def endStall (s : State) : State := { s with stall.active := false, stall.forceCloseOwed := false }

end Sys2Proof.Machine
end

