-- ==== Sys2Proof/Machine/Records.lean ====
section
/-! DEFINITION. Completion records (chapter 8): the ring, the record queue, the record writer, the consumer snoop, and
the record words (R180). -/

namespace Sys2Proof.Machine

/-- The record built from a slot record (R135). -/
def Slot.toRec (b : Slot) : Rec :=
  { memErrors := b.memErrors, sequence := b.sequence, tag := b.tag, torn := b.torn, forced := b.forced,
    memErr := b.memErr, wasHeld := b.wasHeld, forceClosed := b.forceClosed, commandClosed := b.commandClosed,
    entriesDrained := b.entriesDrained, rmwCount := b.rmwCount, frameAtStart := b.frameAtStart,
    drainTime := b.drainTime }

/-- Word 1 of a record: sequence, tag and the six flags (Table 11-3). -/
def Rec.word1 (r : Rec) : Word :=
  BitVec.ofNat 2 0 ++ BitVec.ofBool r.commandClosed ++ BitVec.ofBool r.forceClosed ++ BitVec.ofBool r.wasHeld
    ++ BitVec.ofBool r.memErr ++ BitVec.ofBool r.forced ++ BitVec.ofBool r.torn ++ r.tag ++ r.sequence

/-- Word 2 of a record: entries drained and RMW count (Table 11-3). -/
def Rec.word2 (r : Rec) : Word := BitVec.ofNat 16 r.rmwCount ++ BitVec.ofNat 16 r.entriesDrained

/-- Word 3 of a record: frame number at drain start and drain time (Table 11-3). -/
def Rec.word3 (r : Rec) : Word := BitVec.ofNat 16 r.drainTime ++ r.frameAtStart

/-- Word 0 of a record, formed from P, the lost count and the record's memory errors (R139, Table 11-3). -/
def Rec.word0 (r : Rec) (prod : Half) (lost : Nat) : Word :=
  BitVec.ofNat 8 r.memErrors ++ BitVec.ofNat 8 lost ++ prod

/-- The place of a word in its ring slot (R134). -/
def RecWord.index : RecWord → Nat
  | .word0 => 0
  | .word1 => 1
  | .word2 => 2
  | .word3 => 3

/-- The word written after this one; none after word 0 (R138). -/
def RecWord.next : RecWord → Option RecWord
  | .word1 => some .word2
  | .word2 => some .word3
  | .word3 => some .word0
  | .word0 => none

/-- The data of one word of the head record (R138, R139). -/
def recordData (s : State) (r : Rec) : RecWord → Word
  | .word0 => r.word0 s.recs.prod s.recs.lost
  | .word1 => r.word1
  | .word2 => r.word2
  | .word3 => r.word3

/-- The address of one word of ring slot P mod size (R134, R138). -/
def recordWordAddr (s : State) (w : RecWord) : WordAddr :=
  s.cfg.ringBase + BitVec.ofNat 24 (4 * (s.recs.prod.toNat % s.cfg.ringSize) + w.index)

/-- The records written and not yet consumed: (P − C) mod 65,536 (R141). -/
def unread (s : State) : Nat := (s.recs.prod - s.recs.cons).toNat

/-- A record is in progress from the request of word 1 to the grant of word 0 (R137). -/
def recordInProgress (s : State) : Bool :=
  match s.recs.writer with
  | .idle => false
  | .inFlight .word0 => false
  | .requested _ => true
  | .inFlight _ => true

/-- Whether the writer is writing, to the response of word 0 (R137). -/
def writerWriting (s : State) : Bool := s.recs.writer != .idle

/-- The writer starts the head record when it is idle, a record is queued and the ring has room (R137). -/
def testWriter (s : State) : State :=
  if s.recs.writer = .idle ∧ s.recs.records ≠ [] ∧ unread s < s.cfg.ringSize then
    { s with recs.writer := .requested .word1 }
  else s

/-- A built record joins the queue, or is dropped and counted when the queue holds four (R136). -/
def pushRecord (r : Rec) (s : State) : State :=
  if s.recs.records.length < Config.recordQueueDepth then
    testWriter { s with recs.records := s.recs.records ++ [r] }
  else
    modCounters Counters.addLost
      (raise .lost { s with recs.lost := satInc Config.byteLimit s.recs.lost })

/-- What happens at the grant of word 0 (R139). -/
def grantWord0 (s : State) : State :=
  raise .record
    { s with recs.prod := s.recs.prod + 1, recs.lost := 0, recs.records := s.recs.records.tail }

/-- The room limit of a consumer store (R141). -/
def roomLimit (s : State) : Nat := if recordInProgress s then s.cfg.ringSize - 1 else s.cfg.ringSize

/-- The consumer snoop (R141). -/
def snoopConsumer (count : Half) (s : State) : State :=
  if (s.recs.prod - count).toNat ≤ roomLimit s then testWriter { s with recs.cons := count }
  else raise .ringErr s

end Sys2Proof.Machine
end

