-- ==== Sys2Proof/Machine/Windows.lean ====
section
/-! DEFINITION. The window table (chapter 1): membership, resolution, legality and conflicts; and the transform unit
(chapter 2): the key compare, the lane transforms and the lane classes of a write (Table 4-1). -/

namespace Sys2Proof.Machine

/-! ### Membership (1.2) -/

/-- The pixel size in bytes (R4). -/
def Format.size : Format → Nat
  | .p8 => 1
  | .p16 => 2
  | .p32 => 4

/-- The origin byte position o (1.1). -/
def Window.origin (w : Window) : Nat := 4 * w.originWord.toNat + w.originLane.toNat

/-- The line length L in bytes (1.1). -/
def Window.lineBytes (w : Window) : Nat := 4 * w.pitch.toNat

/-- Whether a byte position lies in a window (R3). -/
def Window.contains (w : Window) (b : Nat) : Bool :=
  if 1 < w.height.toNat then
    decide (w.origin ≤ b) && decide ((b - w.origin) % w.lineBytes < w.width.toNat)
      && decide ((b - w.origin) / w.lineBytes < w.height.toNat)
  else decide (w.origin ≤ b) && decide (b < w.origin + w.width.toNat)

/-- Whether any lane of a word is in a window (R3, R9). -/
def Window.covers (w : Window) (word : WordAddr) : Bool :=
  w.contains (bytePosition word 0) || w.contains (bytePosition word 1) || w.contains (bytePosition word 2)
    || w.contains (bytePosition word 3)

/-- The words of a ring (R134). -/
def ringWords (base : WordAddr) (size : Nat) : List WordAddr :=
  (List.range (4 * size)).map fun i => base + BitVec.ofNat 24 i

/-- Whether a word is one of the words of a ring (R84, R133). -/
def inRing (base : WordAddr) (size : Nat) (w : WordAddr) : Bool :=
  decide (base.toNat ≤ w.toNat) && decide (w.toNat < base.toNat + 4 * size)

/-- The words R9 protects: the configured watched words and the words of the configured ring. -/
def protectedWords (c : Settings) : List WordAddr :=
  (match c.marks with
    | some m => [m.close, m.release, m.consumer]
    | none => []) ++ ringWords c.ringBase c.ringSize

/-- Whether some enabled window covers a word (R84, R133). -/
def windowCovers (c : Settings) (word : WordAddr) : Bool :=
  c.windows.toList.any fun w => w.enabled && w.covers word

/-! ### Legality of a definition (1.3) -/

/-- The window format a parameter byte names (Table 11-6). -/
def formatOfByte (b : Byte) : Option Format :=
  if b = 0x01#8 then some .p8 else if b = 0x02#8 then some .p16 else if b = 0x04#8 then some .p32 else none

/-- The window mode a parameter byte names (Table 11-6). -/
def modeOfByte (b : Byte) : Option WinMode :=
  if b = 0x00#8 then some .direct else if b = 0x01#8 then some .defer else none

/-- The yes or no a parameter byte names (Table 11-6). -/
def boolOfByte (b : Byte) : Option Bool :=
  if b = 0x00#8 then some false else if b = 0x01#8 then some true else none

/-- The geometry checks of R6: origin lane, width, height, pitch, width against pitch, top of memory. -/
def legalShape (size originWord originLane width height pitch : Nat) : Bool :=
  decide (originLane < 4) && decide (originLane % size = 0)
    && decide (1 ≤ width) && decide (width ≤ 8192) && decide (width % size = 0)
    && decide (1 ≤ height) && decide (height ≤ 4096) && decide (1 ≤ pitch)
    && (decide (height ≤ 1) || decide (width ≤ 4 * pitch))
    && decide (4 * originWord + originLane + (height - 1) * 4 * pitch + width - 1 < Config.bytePositions)

/-- Whether a stored window has legal fields (R6). -/
def Window.legal (w : Window) : Bool :=
  legalShape w.format.size w.originWord.toNat w.originLane.toNat w.width.toNat w.height.toNat w.pitch.toNat

/-- The definition WIN_WRITE stores, none when a field fails a check of R6; a stored window stands disabled (R5). -/
def windowOfParams (p : WinParams) : Option Window :=
  match formatOfByte p.format, modeOfByte p.mode, boolOfByte p.keyEnable with
  | some f, some m, some k =>
    if legalShape f.size p.originWord.toNat p.originLane.toNat p.width.toNat p.height.toNat p.pitch.toNat
        && decide (p.raster.toNat < 16) then
      some { enabled := false, originWord := p.originWord, originLane := p.originLane.extractLsb' 0 2,
             width := p.width, height := p.height, pitch := p.pitch, format := f, mode := m,
             raster := p.raster.extractLsb' 0 4, keyEnable := k, keyValue := p.keyValue, keyMask := p.keyMask }
    else none
  | _, _, _ => none

/-- The window index a parameter byte names, none above 15 (R5, R7, R8, R10). -/
def windowIndex (b : Byte) : Option (Fin 16) := if h : b.toNat < 16 then some ⟨b.toNat, h⟩ else none

/-- One window of the table (R1). -/
def windowAt (i : Fin 16) (s : State) : Window := s.cfg.windows[i]

/-- One window of the table replaced (R1). -/
def setWindow (i : Fin 16) (w : Window) (s : State) : State :=
  { s with cfg.windows := s.cfg.windows.set i w }

/-! ### Resolution (1.5) -/

/-- The lowest-numbered enabled window that contains a byte position (R13). -/
def resolve (s : State) (b : Nat) : Option Window :=
  s.cfg.windows.toList.find? fun w => w.enabled && w.contains b

/-! ### The transparency key (2.5) -/

/-- The lanes of the pixel a lane belongs to (R4). -/
def pixelLanes (f : Format) (i : LaneIx) : LaneMask :=
  match f with
  | .p8 => (1#4) <<< i.val
  | .p16 => if i.val < 2 then 0x3 else 0xC
  | .p32 => 0xF

/-- The value of the pixel of a lane, little-endian (R24). -/
def pixelValue (f : Format) (i : LaneIx) (data : Word) : Word :=
  match f with
  | .p8 => (laneByte data i).setWidth 32
  | .p16 => if i.val < 2 then (data.extractLsb' 0 16).setWidth 32 else (data.extractLsb' 16 16).setWidth 32
  | .p32 => data

/-- The bits of the pixel width (R24). -/
def pixelBits : Format → Word
  | .p8 => 0x000000FF
  | .p16 => 0x0000FFFF
  | .p32 => 0xFFFFFFFF

/-- Whether a lane's pixel matches its window's key (R24, R25). -/
def Window.keyMatches (w : Window) (lanes : LaneMask) (data : Word) (i : LaneIx) : Bool :=
  w.keyEnable && (lanes &&& pixelLanes w.format i == pixelLanes w.format i)
    && (pixelValue w.format i data &&& w.keyMask &&& pixelBits w.format
        == w.keyValue &&& w.keyMask &&& pixelBits w.format)

/-! ### Lane classes and transforms (R18, R57) -/

/-- What acceptance fixes for one lane of a write: its class, its keep and flip bits, and whether the lane is deferrable
in QUIESCING (R70). -/
structure LaneWork where
  cls        : LaneClass
  keep       : Byte
  flip       : Byte
  deferrable : Bool
deriving DecidableEq, Repr

/-- A lane not enabled in the write (R18, R57). -/
def LaneWork.idle : LaneWork := { cls := .idle, keep := 0xFF, flip := 0x00, deferrable := false }

/-- The class and transform of one lane of a write taken in ENGAGED or QUIESCING: the first class of Table 4-1 whose
condition it meets (R57), with the transform of R18. -/
def laneWork (s : State) (word : WordAddr) (lanes : LaneMask) (data : Word) (held : LaneMask) (i : LaneIx) :
    LaneWork :=
  if hasLane lanes i then
    match resolve s (bytePosition word i) with
    | none =>
      { cls := if hasLane held i then .carried else .plain, keep := 0x00, flip := laneByte data i,
        deferrable := hasLane held i }
    | some w =>
      let deferrable := hasLane held i || w.mode == .defer
      if w.keyMatches lanes data i then { cls := .keyedOut, keep := 0xFF, flip := 0x00, deferrable := deferrable }
      else
        { cls := if hasLane held i then .carried else if w.mode = .defer then .deferred else .direct,
          keep := rasterKeep w.raster (laneByte data i), flip := rasterFlip w.raster (laneByte data i),
          deferrable := deferrable }
  else LaneWork.idle

/-- The work of the four lanes. -/
def lanesWork (s : State) (word : WordAddr) (lanes : LaneMask) (data : Word) : Four LaneWork :=
  Four.of fun i => laneWork s word lanes data (heldLanes word s) i

/-- The word transform: the four lane transforms side by side (R18). -/
def transformOf (f : Four LaneWork) : Transform :=
  { keep := wordOfLanes (f.map LaneWork.keep), flip := wordOfLanes (f.map LaneWork.flip) }

/-- The classes of the four lanes. -/
def classesOf (f : Four LaneWork) : Four LaneClass := f.map LaneWork.cls

/-- Whether some lane is deferrable (R70). -/
def anyDeferrable (f : Four LaneWork) : Bool :=
  f.a0.deferrable || f.a1.deferrable || f.a2.deferrable || f.a3.deferrable

/-- The classes of a plain write: every enabled lane is plain (R69). -/
def plainClasses (lanes : LaneMask) : Four LaneClass :=
  Four.of fun i => if hasLane lanes i then .plain else .idle

end Sys2Proof.Machine
end

