-- ==== Sys2Proof/Machine/WritePath.lean ====
section
/-! DEFINITION. The course of a system write after its acceptance (chapter 4): its lanes, the commit, steps 2 to 4, and
its completion as a plain write. -/

namespace Sys2Proof.Machine

/-! ### The lanes of a write -/

/-- The immediate lanes: direct and plain (R57). -/
def WriteJob.immediateLanes (w : WriteJob) : LaneMask :=
  maskOfLanes (w.classes.map fun c => c == .direct || c == .plain)

/-- The held lanes: carried and deferred (R57). -/
def WriteJob.heldClassLanes (w : WriteJob) : LaneMask :=
  maskOfLanes (w.classes.map fun c => c == .carried || c == .deferred)

/-- The lanes to hold: carried and deferred lanes whose transform is not identity (R42). -/
def WriteJob.lanesToHold (w : WriteJob) : LaneMask :=
  w.heldClassLanes &&& maskOfLanes (Four.of fun i => !w.xf.isIdentityOn i)

/-- The transform to hold: the word transform on the lanes to hold, identity elsewhere (R42). -/
def WriteJob.holdTransform (w : WriteJob) : Transform := w.xf.restrict w.lanesToHold

/-- Whether an immediate lane needs the destination (R27, R62). -/
def WriteJob.needsDestination (w : WriteJob) : Bool := w.xf.needsRead w.immediateLanes

/-- The data of the memory write, 0x00 on the lanes it does not write (R65). -/
def WriteJob.memoryData (w : WriteJob) : Word :=
  w.xf.apply (w.readData.getD 0) &&& laneBits w.immediateLanes

/-- The write as a plain write: every enabled lane plain, nothing kept of its course (R69, R70, R72). -/
def WriteJob.asPlain (w : WriteJob) : WriteJob :=
  { w with classes := plainClasses w.lanes, xf := plainTransform w.lanes w.data, reserved := false, readData := none,
           plain := true, leftEngaged := false }

/-! ### Steps 4, 3 and 2 -/

/-- Step 4: the memory write is issued when there are immediate lanes; otherwise the write is answered OK (R65, R68). -/
def stepMemory (w : WriteJob) (s : State) : State :=
  if w.immediateLanes = 0#4 then answerSystem .ok s else setWrite { w with phase := .writeRequested } s

/-- A write completed as plain: a full-word consumer store is snooped, and the memory write is issued (R69, R70, R73). -/
def completePlain (w : WriteJob) (s : State) : State :=
  let s := setWrite { w.asPlain with phase := .writeRequested } s
  if w.mark = some .consumer then snoopConsumer (consumerCount w.data) s else s

/-- The slot a commit goes into: the OPEN one; none for a write that DISENGAGE has reached in its destination read, even
when ENGAGE has opened a batch since (R44, R71). -/
def commitSlot (w : WriteJob) (s : State) : Option SlotIx := if w.leftEngaged then none else openSlot s

/-- A commit refused for want of an OPEN slot: in QUIESCING the write stalls for PASS, and otherwise the part has been in
PASS and the write is completed as plain at once (R67; log entry 22 for a part that is ENGAGED again). -/
def commitWithoutSlot (w : WriteJob) (s : State) : State :=
  if s.part = .quiescing then
    beginStall .pass (setWrite { w with reserved := false, readData := none, phase := .waitPass } s)
  else completePlain w s

/-- A commit refused for want of a place: the write stalls for one and keeps its read data (R44, R66). -/
def commitWithoutPlace (w : WriteJob) (s : State) : State :=
  beginStall .place (setWrite { w with phase := .waitCommitPlace } s)

/-- The entry a commit creates (R44). -/
def WriteJob.newEntry (w : WriteJob) (i : SlotIx) : Entry :=
  { word := w.word, slot := i, lanes := w.lanesToHold, xf := w.holdTransform }

/-- Step 3: the lanes to hold are composed into the open batch (R43), or make an entry in it (R44). -/
def commit (w : WriteJob) (s : State) : State :=
  match commitSlot w s with
  | none => commitWithoutSlot w s
  | some i =>
    if (findEntry w.word i s).isSome then
      stepMemory { w with reserved := false } (composeEntry w.word i w.lanesToHold w.holdTransform s)
    else if w.reserved || placeFree s then
      stepMemory { w with reserved := false } (addEntry (w.newEntry i) s)
    else commitWithoutPlace w s

/-- Step 3 of a write, skipped when it has no lanes to hold (R64). -/
def stepCommit (w : WriteJob) (s : State) : State :=
  if w.lanesToHold = 0#4 then stepMemory w s else commit w s

/-- Step 2 of a write, skipped when no immediate lane needs the destination (R62). -/
def stepDestination (w : WriteJob) (s : State) : State :=
  if w.needsDestination then setWrite { w with phase := .destRequested } s else stepCommit w s

/-! ### Places -/

/-- A place has become free: a write waiting for one takes it as its reservation and goes on (R40, R129). -/
def placeFreed (s : State) : State :=
  if placeFree s then
    match s.sys with
    | .write w =>
      match w.phase with
      | .waitPlace =>
        let w := { w with reserved := true }
        stepDestination w (endStall (setWrite w s))
      | .waitCommitPlace =>
        let w := { w with reserved := true }
        stepCommit w (endStall (setWrite w s))
      | .waitSlot | .waitPass | .destRequested | .destInFlight | .writeRequested | .writeInFlight => s
    | .read _ => s
    | .idle => s
  else s

end Sys2Proof.Machine
end

