-- ==== Sys2Proof/Machine/Drain.lean ====
section
/-! DEFINITION. Batches (chapter 5), the drain engine (chapter 6) and forces (chapter 7): opening and closing, the drain
set, the force horizon, starting and completing a batch, and what a freed slot brings about. -/

namespace Sys2Proof.Machine

/-! ### Opening and closing (5.2, 5.4) -/

/-- A batch opens in a slot: it takes the sequence counter's value, every other field is cleared (R81, R77, R78). -/
def openBatch (i : SlotIx) (s : State) : State :=
  { setSlot i { Slot.cleared with state := .opened, sequence := s.batch.seqCounter } s with
    batch.seqCounter := s.batch.seqCounter + 1 }

/-- What closes a batch (R77). -/
inductive CloseReason where
  /-- a close store with its tag and hold request (R86) -/
  | store (tag : Byte) (hold : Bool)
  /-- DISENGAGE or FLUSH -/
  | command
  /-- a force-close (R125) -/
  | force
deriving DecidableEq, Repr

/-- A slot record at its close, with the frame counter's value (R77). -/
def Slot.close (r : CloseReason) (frame : Half) (b : Slot) : Slot :=
  match r with
  | .store tag hold =>
    { b with state := if hold then .held else .closed, tag := tag, wasHeld := hold, closeFrame := frame }
  | .command => { b with state := .closed, tag := 0, commandClosed := true, closeFrame := frame }
  | .force => { b with state := .closed, tag := 0, forceClosed := true, closeFrame := frame }

/-- The batch in a slot closes (R77). -/
def closeSlot (r : CloseReason) (i : SlotIx) (s : State) : State :=
  modSlot i (Slot.close r s.sync.frameCounter) s

/-- A HELD slot record becomes CLOSED and keeps its other fields (R82, R91, R127). -/
def Slot.letGo (b : Slot) : Slot := if b.state = .held then { b with state := .closed } else b

/-- Every HELD batch becomes CLOSED (R82, R127). -/
def releaseAll (s : State) : State := { s with batch.slots := s.batch.slots.map Slot.letGo }

/-- The oldest HELD batch becomes CLOSED, if any is HELD (R91). -/
def releaseOldest (s : State) : State :=
  match oldestHeld s with
  | some i => modSlot i Slot.letGo s
  | none => s

/-! ### Drain set and force horizon -/

/-- Whether a batch is in the drain set: not younger than the drain-set end (R101). -/
def inDrainSet (seq : Half) (s : State) : Bool :=
  match s.drain.setEnd with
  | none => false
  | some e => decide (age e s ≤ age seq s)

/-- Whether a batch is within the force horizon: not younger than the batch it names (R101). -/
def inHorizon (seq : Half) (s : State) : Bool :=
  match s.drain.horizon with
  | none => false
  | some h => decide (age h s ≤ age seq s)

/-- The batches a blank start takes in: from the first batch neither DRAINING nor in the set, while CLOSED (R102). -/
def drainSetExtension (s : State) : List SlotIx :=
  ((queueOrder s).dropWhile fun i =>
      slotState i s == .draining || inDrainSet (slotOf i s).sequence s).takeWhile fun i =>
    slotState i s == .closed

/-- The drain set extended at a blank start (R102). -/
def extendDrainSet (s : State) : State :=
  match (drainSetExtension s).getLast? with
  | some i => { s with drain.setEnd := some (slotOf i s).sequence }
  | none => s

/-- The force horizon extended to a batch; it is never drawn back (R123). The engine's test follows in engineTest. -/
def extendHorizon (seq : Half) (s : State) : State :=
  if inHorizon seq s then s else { s with drain.horizon := some seq }

/-- The force horizon extended to the batch in a slot, if there is one. -/
def extendHorizonTo (target : Option SlotIx) (s : State) : State :=
  match target with
  | some i => extendHorizon (slotOf i s).sequence s
  | none => s

/-! ### Closes that open another batch -/

/-- The open batch closes and another opens in the lowest-numbered FREE slot, in one step (R87, R127, R125). Where no
batch is OPEN or no slot is FREE, nothing happens. -/
def closeAndOpen (r : CloseReason) (s : State) : State :=
  match openSlot s, freeSlot s with
  | some i, some j => openBatch j (closeSlot r i s)
  | _, _ => s

/-- A close that forces the batch it closes: the open batch closes, another opens, the horizon goes to the batch just
closed, and an owed force-close lapses or is made (R125, R127, R128). -/
def closeAndForce (r : CloseReason) (s : State) : State :=
  match openSlot s, freeSlot s with
  | some i, some j =>
    { extendHorizon (slotOf i s).sequence (openBatch j (closeSlot r i s)) with stall.forceCloseOwed := false }
  | _, _ => s

/-- Whether a force-close is owed and the open batch is the sole batch in flight (R125). -/
def forceCloseDue (s : State) : Bool :=
  s.stall.active && s.stall.forceCloseOwed && (openSlot s).isSome && (nonOpenQueue s).isEmpty

/-- The close of a close store, with the tag and hold request of its value (R86, R87). -/
def closeReasonOf (data : Word) : CloseReason := .store (closeTag data) (closeHold data)

/-! ### Entering PASS, and the parties that wait for a FREE slot -/

/-- The part enters PASS from QUIESCING: QUIESCED is raised and a write stalled for PASS is completed as plain (R171,
R70). -/
def enterPass (s : State) : State :=
  let s := raise .quiesced { s with part := .pass }
  match s.sys with
  | .write w => if w.phase = .waitPass then completePlain w (endStall s) else s
  | .read _ => s
  | .idle => s

/-- The write in progress when it is a close store waiting for a FREE slot (R88). -/
def waitingClose (s : State) : Option WriteJob :=
  match s.sys with
  | .write w => if w.phase = .waitSlot then some w else none
  | .read _ => none
  | .idle => none

/-- The waiting close takes effect and its write goes on to its memory write (R88, R129). -/
def takeWaitingClose (w : WriteJob) (s : State) : State :=
  stepDestination w (endStall (closeAndOpen (closeReasonOf w.data) s))

/-- A slot has become FREE (R110): in QUIESCING the last one makes the part PASS (R171); in ENGAGED it goes to a waiting
close store, else to FLUSH's pending close (R128), else an owed force-close may be due (R125). -/
def slotFreed (s : State) : State :=
  match s.part with
  | .quiescing => if allFree s then enterPass s else s
  | .engaged =>
    match waitingClose s with
    | some w => takeWaitingClose w s
    | none =>
      if s.batch.pendingClose then closeAndForce .command { s with batch.pendingClose := false }
      else if forceCloseDue s then closeAndForce .force s
      else s
  | .pass => s

/-! ### Starting, walking and completing a batch -/

/-- The batch the idle engine starts, and whether only the force horizon starts it (R103, R126). -/
def startChoice (s : State) : Option (SlotIx × Bool) :=
  match s.drain.current with
  | some _ => none
  | none =>
    match oldestNonOpen s with
    | none => none
    | some i =>
      let b := slotOf i s
      if b.state = .closed ∧ (inDrainSet b.sequence s = true ∨ s.cfg.source = .immediate) then some (i, false)
      else if (b.state = .closed ∨ b.state = .held) ∧ inHorizon b.sequence s = true then some (i, true)
      else none

/-- A batch marked FORCED (R126). -/
def markForced (i : SlotIx) (s : State) : State :=
  modCounters Counters.addForced (raise .forced (modSlot i (fun b => { b with forced := true }) s))

/-- The drain engine starts a batch (R104); one that only the horizon starts is marked FORCED (R126). -/
def startBatch (i : SlotIx) (forced : Bool) (s : State) : State :=
  let s := modSlot i (fun b => { b with state := .draining, frameAtStart := s.sync.frameCounter }) s
  let s := if forced then markForced i s else s
  { s with drain.current := some i, drain.ticks := 0, drain.entry := none, drain.access := .none,
           drain.readData := none }

/-- The engine takes an entry and requests its first access: a read when some keep bit of the lane set is 1, counted as
RMW, and otherwise the write (R105). -/
def takeEntry (i : SlotIx) (e : Entry) (s : State) : State :=
  if e.xf.needsRead e.lanes then
    { modSlot i (fun b => { b with rmwCount := b.rmwCount + 1 }) s with
      drain.entry := some e, drain.access := .readRequested, drain.readData := none }
  else { s with drain.entry := some e, drain.access := .writeRequested, drain.readData := none }

/-- The end named becomes none when the batch it names completes (R110, R123). -/
def clearEnd (seq : Half) (e : Option Half) : Option Half := if e = some seq then none else e

/-- The engine becomes idle; a drain-set end or horizon that names the completed batch becomes none (R110 step 5). -/
def engineIdle (seq : Half) (s : State) : State :=
  { s with drain.current := none, drain.entry := none, drain.access := .none, drain.readData := none,
           drain.setEnd := clearEnd seq s.drain.setEnd, drain.horizon := clearEnd seq s.drain.horizon }

/-- A batch completes: steps 1 to 5 of R110, with what the freed slot brings about at step 4. -/
def completeBatch (i : SlotIx) (s : State) : State :=
  let s := modSlot i (fun b => { b with drainTime := s.drain.ticks }) s
  let b := slotOf i s
  let s := modCounters Counters.addDrained (pushRecord b.toRec s)
  let s := slotFreed (modSlot i (fun b => { b with state := .free }) s)
  engineIdle b.sequence s

/-- The test of R103 and what follows from it: a batch that starts without entries completes at once (R111) and the test
is made again. Every pass completes one batch, and at most seven can: four in flight and three closes (log entry 19). -/
def engineRun : Nat → State → State
  | 0, s => s
  | n + 1, s =>
    match startChoice s with
    | none => s
    | some (i, forced) =>
      let s := startBatch i forced s
      match oldestEntry i s with
      | some e => takeEntry i e s
      | none => engineRun n (completeBatch i s)

/-- The drain engine tests R103. -/
def engineTest (s : State) : State := engineRun 8 s

/-- After an entry's last access the engine takes the slot's next entry, or the batch completes (R107, R108, R110). -/
def nextEntry (i : SlotIx) (s : State) : State :=
  match oldestEntry i s with
  | some e => takeEntry i e s
  | none => engineTest (completeBatch i s)

/-- A drain access answered with ERROR: the batch's flag and error count (R108); the report is R157's. -/
def drainError (i : SlotIx) (s : State) : State :=
  modSlot i (fun b => { b with memErr := true, memErrors := satInc Config.byteLimit b.memErrors }) s

/-- One more entry drained (R107, R108). -/
def countDrained (i : SlotIx) (s : State) : State :=
  modSlot i (fun b => { b with entriesDrained := b.entriesDrained + 1 }) s

/-- The TORN test at the grant of a drain write (R109). -/
def tornTest (i : SlotIx) (s : State) : State :=
  if s.cfg.source ≠ .immediate ∧ s.sync.blanking ≠ some true ∧ (slotOf i s).torn = false then
    modCounters Counters.addTorn (raise .torn (modSlot i (fun b => { b with torn := true }) s))
  else s

/-- The data of the drain write: on each lane of the set (read data AND keep) XOR flip; where no read was made the keep
bits of the set are 0 and the flip bits are the data (R105, R106). Lanes outside the set carry no data (R106); that they
hold 0x00 is the model's choice (log entry 26). -/
def drainData (e : Entry) (readData : Option Word) : Word :=
  e.xf.apply (readData.getD 0) &&& laneBits e.lanes

/-! ### Forces (7.2) -/

/-- The force of a cause (a) stall (R124, R125). -/
def forceForPlace (s : State) : State :=
  match oldestNonOpenWithEntry s with
  | some i => extendHorizon (slotOf i s).sequence s
  | none =>
    let s := extendHorizonTo (youngestNonOpen s) { s with stall.forceCloseOwed := true }
    if forceCloseDue s then closeAndForce .force s else s

/-- The force made at the expiry of a stall, by its cause (R124). -/
def forceFor (c : StallCause) (s : State) : State :=
  match c with
  | .place => forceForPlace s
  | .slot => extendHorizonTo (oldestNonOpen s) s
  | .pass => extendHorizonTo (youngestNonOpen s) s

/-- Whether the stall timer stands at its limit and the expiry has not been taken (R121, log entry 10). -/
def expiryDue (s : State) : Bool := s.stall.active && !s.stall.expired && decide (s.stall.limit ≤ s.stall.elapsed)

/-- The expiry of the stall: EXPIRY, the count, and the force for its cause (R121). -/
def expireStall (s : State) : State :=
  let s := modCounters Counters.addExpiry (raise .expiry { s with stall.expired := true })
  engineTest (forceFor s.stall.cause s)

end Sys2Proof.Machine
end

