-- ==== Sys2Proof/Machine/SystemPort.lean ====
section
/-! DEFINITION. The system and refresh ports: acceptance of reads and writes, and the memory responses they wait for
(3.5, chapter 4, 9.1, 9.2). -/

namespace Sys2Proof.Machine

/-! ### System reads -/

/-- SYSTEM_READ: the port accepts a read when it is free (R46, R47); while it is busy the request waits on the wires
(R146, log entry 9). -/
def execSystemRead (word : WordAddr) (lanes : LaneMask) (s : State) : Result :=
  if s.sys ≠ .idle then .next s
  else
    let forwarded := wordHasEntry word s
    if forwarded && (composed word s).keep == 0#32 then
      .next (answerSystem (.data (composed word s).flip) s)
    else
      .next { s with
        sysAnswer := none
        sys := .read { word := word, lanes := lanes, forwarded := forwarded, granted := false,
                       snapshot := Transform.identity } }

/-- The answer of a read that memory answered: the snapshot applied to the data, or ERROR (R46, R48, R49). -/
def ReadJob.answer (r : ReadJob) : ReadReply → Answer
  | .ok d => .data (r.snapshot.apply d)
  | .error => .error

/-- SYSTEM_READ_RESPONSE (R48, R49, R157). -/
def execSystemReadResponse (reply : ReadReply) (s : State) : Result :=
  match inFlightOf .systemRead s, s.sys with
  | some f, .read r => .next (answerSystem (r.answer reply) (takeResponse f (readFailed reply) s))
  | _, _ => .fault .noSuchRequestInFlight

/-! ### Acceptance of system writes -/

/-- The watched word a full-word write addresses (R56, R73, R74). -/
def markOf (c : Settings) (word : WordAddr) (lanes : LaneMask) : Option MarkKind :=
  match c.marks with
  | none => none
  | some m =>
    if lanes = allLanes then
      if word = m.close then some .close
      else if word = m.release then some .release
      else if word = m.consumer then some .consumer
      else none
    else none

/-- A write taken in PASS (R69). -/
def plainJob (s : State) (word : WordAddr) (lanes : LaneMask) (data : Word) : WriteJob :=
  { word := word, lanes := lanes, data := data, mark := markOf s.cfg word lanes, classes := plainClasses lanes,
    xf := plainTransform lanes data, reserved := false, readData := none, plain := true,
    leftEngaged := false, phase := .writeRequested }

/-- A write taken in ENGAGED or QUIESCING, with what acceptance fixes (R56). -/
def classifiedJob (s : State) (word : WordAddr) (lanes : LaneMask) (data : Word) : WriteJob :=
  { word := word, lanes := lanes, data := data, mark := markOf s.cfg word lanes,
    classes := classesOf (lanesWork s word lanes data), xf := transformOf (lanesWork s word lanes data),
    reserved := false, readData := none, plain := false, leftEngaged := false, phase := .writeRequested }

/-- Whether a write needs a place: it has lanes to hold and the open batch has no entry for its word (R39, R61). -/
def needsPlace (w : WriteJob) (s : State) : Bool :=
  w.lanesToHold != 0#4 &&
    match openSlot s with
    | some i => (findEntry w.word i s).isNone
    | none => true

/-- The mark effect of a release or consumer store, made at acceptance (R73); a release lets the drain engine test R103
(R91, R103). -/
def otherMarkEffect (w : WriteJob) (s : State) : State :=
  match w.mark with
  | some .release => if s.part = .engaged then engineTest (releaseOldest s) else s
  | some .consumer => snoopConsumer (consumerCount w.data) s
  | some .close => s
  | none => s

/-- A close store in ENGAGED: the close takes effect when a slot is FREE, and otherwise the write stalls for one (R87,
R88). -/
def acceptClose (w : WriteJob) (s : State) : State :=
  if (freeSlot s).isSome then
    stepDestination w (engineTest (closeAndOpen (closeReasonOf w.data) s))
  else beginStall .slot (setWrite { w with phase := .waitSlot } s)

/-- Step 1 in ENGAGED: a place, a FREE slot, or nothing to secure (R61). -/
def acceptEngaged (w : WriteJob) (s : State) : State :=
  if needsPlace w s then
    if placeFree s then stepDestination { w with reserved := true } (setWrite { w with reserved := true } s)
    else beginStall .place (setWrite { w with phase := .waitPlace } s)
  else if w.mark = some .close then acceptClose w s
  else stepDestination w (otherMarkEffect w s)

/-- Acceptance in QUIESCING: a write with a deferrable lane stalls for PASS; any other runs steps 2 and 4 (R70). -/
def acceptQuiescing (w : WriteJob) (deferrable : Bool) (s : State) : State :=
  if deferrable then beginStall .pass (setWrite { w with phase := .waitPass } s)
  else stepDestination w (otherMarkEffect w s)

/-- Acceptance of a write with a lane enabled, by part state (R56, R69, R70). -/
def acceptWrite (word : WordAddr) (lanes : LaneMask) (data : Word) (s : State) : State :=
  match s.part with
  | .pass => stepMemory (plainJob s word lanes data) (otherMarkEffect (plainJob s word lanes data) s)
  | .engaged => acceptEngaged (classifiedJob s word lanes data) s
  | .quiescing =>
    acceptQuiescing (classifiedJob s word lanes data) (anyDeferrable (lanesWork s word lanes data)) s

/-- SYSTEM_WRITE: the port accepts a write when it is free (R56); a write with no lane enabled is answered at once (R68);
while the port is busy the request waits on the wires (R146, log entry 9). -/
def execSystemWrite (word : WordAddr) (lanes : LaneMask) (data : Word) (s : State) : Result :=
  if s.sys ≠ .idle then .next s
  else if lanes = 0#4 then .next (answerSystem .ok s)
  else .next (acceptWrite word lanes data { s with sysAnswer := none })

/-! ### Responses to a system write -/

/-- The course of a write when its destination read is answered: as plain after a reset (R72), dropped on ERROR (R63),
and otherwise on to step 3 with the data kept (R62). -/
def afterDestinationRead (w : WriteJob) (reply : ReadReply) (s : State) : State :=
  if w.plain then stepMemory { w with readData := none } s
  else
    match reply with
    | .ok d => stepCommit { w with readData := some d } (setWrite { w with readData := some d } s)
    | .error => answerSystem .error s

/-- DESTINATION_READ_RESPONSE (R62, R63, R157). -/
def execDestinationReadResponse (reply : ReadReply) (s : State) : Result :=
  match inFlightOf .destinationRead s, s.sys with
  | some f, .write w => .next (afterDestinationRead w reply (takeResponse f (readFailed reply) s))
  | _, _ => .fault .noSuchRequestInFlight

/-- IMMEDIATE_WRITE_RESPONSE (R68, R157). -/
def execImmediateWriteResponse (reply : WriteReply) (s : State) : Result :=
  match inFlightOf .immediateWrite s, s.sys with
  | some f, .write _ => .next (answerSystem (writeAnswer reply) (takeResponse f (writeFailed reply) s))
  | _, _ => .fault .noSuchRequestInFlight

/-! ### The refresh port -/

/-- REFRESH_READ: handed to the arbiter when the port is free (R148); otherwise it waits on the wires. -/
def execRefreshRead (word : WordAddr) (lanes : LaneMask) (s : State) : Result :=
  if s.refresh ≠ .idle then .next s
  else .next { s with refresh := .waiting word lanes, refreshAnswer := none }

/-- REFRESH_WRITE: answered with ERROR at acceptance, whatever it asks; nothing else changes (R149, log entry 20). -/
def execRefreshWrite (_word : WordAddr) (_lanes : LaneMask) (s : State) : Result :=
  if s.refresh ≠ .idle then .next s else .next (answerRefresh .error s)

/-- REFRESH_READ_RESPONSE: passed on unchanged (R148, R157). -/
def execRefreshReadResponse (reply : ReadReply) (s : State) : Result :=
  match inFlightOf .refreshRead s with
  | some f => .next (answerRefresh (readAnswer reply) (takeResponse f (readFailed reply) s))
  | none => .fault .noSuchRequestInFlight

end Sys2Proof.Machine
end

