-- ==== Sys2Proof/Machine/Arbiter.lean ====
section
/-! DEFINITION. The memory arbiter (9.4), the actions tied to a grant (Table 9-2), and the responses to the drain engine
and the record writer (chapters 6 and 8). -/

namespace Sys2Proof.Machine

/-! ### Waiting requests (R151): one per requester at most -/

/-- The system path's waiting request (R146); that a read request holds data 0 is the model's choice (log entry 26). -/
def systemRequest (s : State) : Option MemRequest :=
  match s.sys with
  | .idle => none
  | .read r =>
    if r.granted then none else some { kind := .systemRead, word := r.word, lanes := allLanes, data := 0 }
  | .write w =>
    match w.phase with
    | .destRequested => some { kind := .destinationRead, word := w.word, lanes := allLanes, data := 0 }
    | .writeRequested =>
      some { kind := .immediateWrite, word := w.word, lanes := w.immediateLanes, data := w.memoryData }
    | .waitPlace | .waitSlot | .waitPass | .destInFlight | .waitCommitPlace | .writeInFlight => none

/-- The refresh path's waiting request (R148); that it holds data 0 is the model's choice (log entry 26). -/
def refreshRequest (s : State) : Option MemRequest :=
  match s.refresh with
  | .waiting word lanes => some { kind := .refreshRead, word := word, lanes := lanes, data := 0 }
  | .idle => none
  | .inFlight => none

/-- The drain engine's waiting request (R105, R106); that a read request holds data 0 is the model's choice (log entry
26). -/
def drainRequest (s : State) : Option MemRequest :=
  match s.drain.entry with
  | none => none
  | some e =>
    match s.drain.access with
    | .readRequested => some { kind := .drainRead, word := e.word, lanes := allLanes, data := 0 }
    | .writeRequested =>
      some { kind := .drainWrite, word := e.word, lanes := e.lanes, data := drainData e s.drain.readData }
    | .none | .readInFlight | .writeInFlight => none

/-- The record writer's waiting request: a word of the head record, all four lanes (R138). -/
def recordRequest (s : State) : Option MemRequest :=
  match s.recs.writer, s.recs.records.head? with
  | .requested w, some r =>
    some { kind := .recordWrite, word := recordWordAddr s w, lanes := allLanes, data := recordData s r w }
  | _, _ => none

/-! ### The decision -/

/-- Whether the drain engine is the preferred side (R153). -/
def drainPreferred (s : State) : Bool := s.cfg.source == .immediate || s.sync.blanking == some true

/-- Between the drain engine and the system path: the only one waiting, or the non-preferred one when its wait count has
reached SHARE, or the preferred one (R152 item 3). -/
def chooseSide (s : State) : Option Requester :=
  match (drainRequest s).isSome, (systemRequest s).isSome with
  | false, false => none
  | true, false => some .drain
  | false, true => some .system
  | true, true =>
    if drainPreferred s then (if s.cfg.share.toNat ≤ s.waits.system then some .system else some .drain)
    else (if s.cfg.share.toNat ≤ s.waits.drain then some .drain else some .system)

/-- The requester the arbiter grants (R152). -/
def choose (s : State) : Option Requester :=
  if (refreshRequest s).isSome then some .refresh
  else if (recordRequest s).isSome && decide (Config.recordPatience ≤ s.waits.record) then some .record
  else
    match chooseSide s with
    | some r => some r
    | none => if (recordRequest s).isSome then some .record else none

/-- The wait counts at a grant (R154). -/
def waitsAfter (r : Requester) (s : State) : Waits :=
  { record :=
      match r with
      | .record => 0
      | .refresh | .drain | .system => if (recordRequest s).isSome then countUp s.waits.record else s.waits.record
    drain :=
      match r with
      | .drain => 0
      | .system => if (drainRequest s).isSome then countUp s.waits.drain else s.waits.drain
      | .refresh | .record => s.waits.drain
    system :=
      match r with
      | .system => 0
      | .drain => if (systemRequest s).isSome then countUp s.waits.system else s.waits.system
      | .refresh | .record => s.waits.system }

/-! ### The actions of a grant (Table 9-2) -/

/-- The request is in flight and the port is busy (R150); a request granted while RESETn is low is marked (R159, R178). -/
def putInFlight (req : MemRequest) (s : State) : State :=
  { s with inFlight := some { req := req, cutOff := !s.resetn } }

/-- A refresh read is granted. -/
def grantRefresh (s : State) : State := { s with refresh := .inFlight }

/-- A system-path request is granted: a forwarded read takes its snapshot (R48). -/
def grantSystem (s : State) : State :=
  match s.sys with
  | .idle => s
  | .read r =>
    let snap := if r.forwarded then composed r.word s else Transform.identity
    { s with sys := .read { r with granted := true, snapshot := snap } }
  | .write w =>
    match w.phase with
    | .destRequested => setWrite { w with phase := .destInFlight } s
    | .writeRequested => setWrite { w with phase := .writeInFlight } s
    | .waitPlace | .waitSlot | .waitPass | .destInFlight | .waitCommitPlace | .writeInFlight => s

/-- A drain write is granted: the entry leaves, entries drained increments, TORN is tested, and the freed place goes to a
write that waits for one (R51, R107, R109, R40). -/
def grantDrainWrite (i : SlotIx) (e : Entry) (s : State) : State :=
  let s := { s with drain.access := .writeInFlight }
  let s := tornTest i (countDrained i s)
  placeFreed (removeEntry e.word i s)

/-- A drain access is granted (R106, R107). -/
def grantDrain (s : State) : State :=
  match s.drain.current, s.drain.entry with
  | some i, some e =>
    if s.drain.access = .writeRequested then grantDrainWrite i e s
    else { s with drain.access := .readInFlight }
  | _, _ => s

/-- A record word is granted; word 0 has the actions of R139. -/
def grantRecord (s : State) : State :=
  match s.recs.writer with
  | .requested w =>
    let s := { s with recs.writer := .inFlight w }
    if w = .word0 then grantWord0 s else s
  | .idle => s
  | .inFlight _ => s

/-- The grant to a requester: its request goes in flight, the wait counts change, and its action is made. -/
def grantTo (r : Requester) (s : State) : State :=
  let waits := waitsAfter r s
  match r with
  | .refresh =>
    match refreshRequest s with
    | some q => grantRefresh (putInFlight q { s with waits := waits })
    | none => s
  | .record =>
    match recordRequest s with
    | some q => grantRecord (putInFlight q { s with waits := waits })
    | none => s
  | .drain =>
    match drainRequest s with
    | some q => grantDrain (putInFlight q { s with waits := waits })
    | none => s
  | .system =>
    match systemRequest s with
    | some q => grantSystem (putInFlight q { s with waits := waits })
    | none => s

/-- ARBITER_GRANT: one decision (R151, R152). It is a row of its own, so other rows may come between a request and the
grant that R151 makes at once (the model's choice, log entry 27). While a request is in flight the arbiter grants nothing
(R150), and with nothing waiting there is no decision (log entry 8). -/
def execArbiterGrant (s : State) : Result :=
  match s.inFlight with
  | some _ => .next s
  | none =>
    match choose s with
    | some r => .next (grantTo r s)
    | none => .next s

/-! ### Responses to the drain engine -/

/-- What the engine does with a drain read's answer: it forms the write (R106), or on ERROR the entry is removed, counted
and flagged (R52, R108), its place goes to a write that waits (R40), and the engine goes on. -/
def afterDrainRead (i : SlotIx) (e : Entry) (reply : ReadReply) (s : State) : State :=
  match reply with
  | .ok d => { s with drain.readData := some d, drain.access := .writeRequested }
  | .error => nextEntry i (placeFreed (removeEntry e.word i (countDrained i (drainError i s))))

/-- DRAIN_READ_RESPONSE. A response to a request granted before a reset is discarded (R115). -/
def execDrainReadResponse (reply : ReadReply) (s : State) : Result :=
  match inFlightOf .drainRead s with
  | none => .fault .noSuchRequestInFlight
  | some f =>
    let s := takeResponse f (readFailed reply) s
    if f.cutOff then .next s
    else
      match s.drain.current, s.drain.entry with
      | some i, some e => .next (afterDrainRead i e reply s)
      | _, _ => .next s

/-- What the engine does with a drain write's answer (R107, R108). -/
def afterDrainWrite (i : SlotIx) (reply : WriteReply) (s : State) : State :=
  match reply with
  | .ok => nextEntry i s
  | .error => nextEntry i (drainError i s)

/-- DRAIN_WRITE_RESPONSE. A response to a request granted before a reset is discarded (R115). -/
def execDrainWriteResponse (reply : WriteReply) (s : State) : Result :=
  match inFlightOf .drainWrite s with
  | none => .fault .noSuchRequestInFlight
  | some f =>
    let s := takeResponse f (writeFailed reply) s
    if f.cutOff then .next s
    else
      match s.drain.current with
      | some i => .next (afterDrainWrite i reply s)
      | none => .next s

/-! ### Responses to the record writer -/

/-- The writer goes on to the next word, or after word 0 is idle and tests R137 (R138, R140). -/
def afterRecordWrite (s : State) : State :=
  match s.recs.writer with
  | .inFlight w =>
    match w.next with
    | some w' => { s with recs.writer := .requested w' }
    | none => testWriter { s with recs.writer := .idle }
  | .idle => s
  | .requested _ => s

/-- RECORD_WRITE_RESPONSE. A response to a request granted before a reset is discarded (R143). -/
def execRecordWriteResponse (reply : WriteReply) (s : State) : Result :=
  match inFlightOf .recordWrite s with
  | none => .fault .noSuchRequestInFlight
  | some f =>
    let s := takeResponse f (writeFailed reply) s
    if f.cutOff then .next s else .next (afterRecordWrite s)

end Sys2Proof.Machine
end

