-- ==== Sys2Proof/Machine/Setup.lean ====
section
/-! DEFINITION. The setup port (chapter 10): transactions, the checks and effects of each command, and the result and
response bytes (Tables 11-5, 11-9, 11-10). -/

namespace Sys2Proof.Machine

/-! ### Result codes and coded values -/

/-- The result byte (Table 11-5). -/
def ResultCode.byte : ResultCode → Byte
  | .ok => 0x00
  | .busy => 0x01
  | .range => 0x02
  | .state => 0x03
  | .unknown => 0x04
  | .conflict => 0x05

/-- What a command answers: its result code, the response data after OK, and the part as it leaves it. -/
structure CommandOut where
  code : ResultCode
  data : List Byte
  next : State
deriving DecidableEq, Repr

/-- A refused command changes nothing and has no response data (R161, R163). -/
def refuse (c : ResultCode) (s : State) : CommandOut := { code := c, data := [], next := s }

/-- An accepted command without response data. -/
def accept (s : State) : CommandOut := { code := .ok, data := [], next := s }

/-- An accepted command with response data. -/
def answerWith (data : List Byte) (s : State) : CommandOut := { code := .ok, data := data, next := s }

/-- A yes or no as a response byte (Tables 11-6, 11-10). -/
def byteOfBool (b : Bool) : Byte := if b then 0x01 else 0x00

/-- The part state byte (Table 11-10). -/
def PartState.byte : PartState → Byte
  | .pass => 0x00
  | .engaged => 0x01
  | .quiescing => 0x02

/-- The slot state byte (Table 11-10). -/
def SlotState.byte : SlotState → Byte
  | .free => 0x00
  | .opened => 0x01
  | .closed => 0x02
  | .held => 0x03
  | .draining => 0x04

/-- The stall byte (Table 11-10). -/
def Stall.byte (t : Stall) : Byte :=
  if t.active then
    match t.cause with
    | .place => 0x01
    | .slot => 0x02
    | .pass => 0x03
  else 0x00

/-- The requester byte (Table 11-10). -/
def Requester.byte : Requester → Byte
  | .system => 0x00
  | .drain => 0x01
  | .record => 0x02
  | .refresh => 0x03

/-- The format byte (Table 11-6). -/
def Format.byte : Format → Byte
  | .p8 => 0x01
  | .p16 => 0x02
  | .p32 => 0x04

/-- The mode byte (Table 11-6). -/
def WinMode.byte : WinMode → Byte
  | .direct => 0x00
  | .defer => 0x01

/-- The SYNC source a byte names (Table 11-6). -/
def sourceOfByte (b : Byte) : Option SyncSource :=
  if b = 0x00#8 then some .blankHigh else if b = 0x01#8 then some .blankLow
  else if b = 0x02#8 then some .immediate else none

/-- The ring size a size code names (Table 11-6). -/
def ringSizeOfCode (b : Byte) : Option Nat :=
  if b = 0x00#8 then some 0
  else if 2 ≤ b.toNat ∧ b.toNat ≤ 8 then some (2 ^ b.toNat) else none

/-- Two bytes of a count, most significant first (R182). -/
def count16 (n : Nat) : List Byte := bytes16 (BitVec.ofNat 16 n)

/-! ### Identification, status, events, counters -/

/-- IDENT (R165). -/
def cmdIdent (s : State) : CommandOut := answerWith (bytes16 Config.partCode ++ [Config.revision]) s

/-- One slot in a STATUS response; the items of a FREE slot are 0 (R95, R182). -/
def slotStatus (b : Slot) : List Byte :=
  if b.state = .free then [SlotState.byte .free, 0, 0, 0, 0, 0]
  else [b.state.byte] ++ bytes16 b.sequence ++ [b.tag] ++ bytes16 b.closeFrame

/-- Whether a batch is OPEN, and its sequence (R95, R182). -/
def openStatus (s : State) : List Byte :=
  match openSlot s with
  | some i => [0x01] ++ bytes16 (slotOf i s).sequence
  | none => [0x00, 0x00, 0x00]

/-- The 40 bytes of a STATUS response (R166, Table 11-9). -/
def statusData (s : State) : List Byte :=
  [s.part.byte] ++ slotStatus (slotOf 0 s) ++ slotStatus (slotOf 1 s) ++ slotStatus (slotOf 2 s)
    ++ slotStatus (slotOf 3 s) ++ openStatus s ++ count16 (occupancy s)
    ++ [BitVec.ofNat 8 s.recs.records.length] ++ bytes16 s.recs.prod ++ bytes16 s.recs.cons
    ++ [s.stall.byte, byteOfBool s.drain.current.isSome, byteOfBool s.blank] ++ bytes16 s.sync.frameCounter

/-- STATUS (R166). -/
def cmdStatus (s : State) : CommandOut := answerWith (statusData s) s

/-- EVENTS (R173). -/
def cmdEvents (s : State) : CommandOut := answerWith [s.ev.flags, s.cfg.mask] s

/-- CLEAR (R173). -/
def cmdClear (f : Byte) (s : State) : CommandOut := accept { s with ev.flags := s.ev.flags &&& ~~~f }

/-- MASK (R174). -/
def cmdMask (m : Byte) (s : State) : CommandOut := accept { s with cfg.mask := m }

/-- The 18 bytes of a COUNTERS response (R176, Table 11-9). -/
def countersData (s : State) : List Byte :=
  count16 s.ev.counters.frames ++ count16 s.ev.counters.batchesDrained ++ count16 s.ev.counters.tornBatches
    ++ count16 s.ev.counters.forcedBatches ++ count16 s.ev.counters.stalls ++ count16 s.ev.counters.stallExpiries
    ++ count16 s.ev.counters.recordsLost ++ count16 s.ev.counters.memoryErrors ++ count16 s.buf.highWater

/-- The clear option: the eight event counters become 0 and the high-water mark the occupancy (R176, R55). -/
def clearCounters (s : State) : State :=
  { s with ev.counters := Counters.zero, buf.highWater := occupancy s }

/-- COUNTERS with any option byte (R176). -/
def cmdCounters (option : Byte) (s : State) : CommandOut :=
  if option = 0x00#8 then answerWith (countersData s) s
  else if option = 0x01#8 then answerWith (countersData s) (clearCounters s)
  else refuse .range s

/-- The 6 bytes of an ERRINFO response (R167, Table 11-9). -/
def errinfoData (s : State) : List Byte :=
  match s.ev.errinfo with
  | none => [0, 0, 0, 0, 0, 0]
  | some e => [0x01] ++ bytes24 e.word ++ [e.requester.byte, byteOfBool e.isWrite]

/-- ERRINFO (R167). -/
def cmdErrinfo (s : State) : CommandOut := answerWith (errinfoData s) { s with ev.errinfo := none }

/-- SOFT_RESET: a soft reset becomes pending (R177). -/
def cmdSoftReset (s : State) : CommandOut := accept { s with setup.softResetPending := true }

/-! ### Windows (chapter 1) -/

/-- WIN_WRITE (R5). -/
def cmdWinWrite (p : WinParams) (s : State) : CommandOut :=
  match windowIndex p.index with
  | none => refuse .range s
  | some i =>
    if (windowAt i s).enabled then refuse .busy s
    else
      match windowOfParams p with
      | none => refuse .range s
      | some w => accept (setWindow i w s)

/-- The 23 bytes of a WIN_READ response (R7, Table 11-9). -/
def windowData (w : Window) : List Byte :=
  [byteOfBool w.enabled] ++ bytes24 w.originWord ++ [w.originLane.setWidth 8] ++ bytes16 w.width ++ bytes16 w.height
    ++ bytes16 w.pitch ++ [w.format.byte, w.mode.byte, w.raster.setWidth 8, byteOfBool w.keyEnable]
    ++ bytes32 w.keyValue ++ bytes32 w.keyMask

/-- WIN_READ (R7). -/
def cmdWinRead (index : Byte) (s : State) : CommandOut :=
  match windowIndex index with
  | none => refuse .range s
  | some i => answerWith (windowData (windowAt i s)) s

/-- WIN_ENABLE (R8, R9). -/
def cmdWinEnable (index : Byte) (s : State) : CommandOut :=
  match windowIndex index with
  | none => refuse .range s
  | some i =>
    let w := windowAt i s
    if w.enabled then accept s
    else if (protectedWords s.cfg).any w.covers then refuse .conflict s
    else accept (setWindow i { w with enabled := true } s)

/-- WIN_DISABLE (R10). -/
def cmdWinDisable (index : Byte) (s : State) : CommandOut :=
  match windowIndex index with
  | none => refuse .range s
  | some i => accept (setWindow i { windowAt i s with enabled := false } s)

/-! ### Watched words and ring -/

/-- MARKS (R84). -/
def cmdMarks (close release consumer : WordAddr) (s : State) : CommandOut :=
  if s.part ≠ .pass then refuse .state s
  else if close = release ∨ close = consumer ∨ release = consumer then refuse .conflict s
  else if [close, release, consumer].any (inRing s.cfg.ringBase s.cfg.ringSize) then refuse .conflict s
  else if [close, release, consumer].any (windowCovers s.cfg) then refuse .conflict s
  else accept { s with cfg.marks := some { close := close, release := release, consumer := consumer } }

/-- Whether one of the configured watched words lies in a ring (R133). -/
def marksInRing (c : Settings) (base : WordAddr) (size : Nat) : Bool :=
  match c.marks with
  | none => false
  | some m => [m.close, m.release, m.consumer].any (inRing base size)

/-- The base and end checks of RING; a size of 0 has none (R133). -/
def ringPlacementLegal (base : WordAddr) (size : Nat) : Bool :=
  size == 0 || (base.toNat % 4 == 0 && decide (base.toNat + 4 * size - 1 < Config.frameWords))

/-- RING (R133). -/
def cmdRing (base : WordAddr) (sizeCode : Byte) (s : State) : CommandOut :=
  if s.part ≠ .pass then refuse .state s
  else if s.recs.records ≠ [] ∨ writerWriting s = true then refuse .busy s
  else
    match ringSizeOfCode sizeCode with
    | none => refuse .range s
    | some size =>
      if !ringPlacementLegal base size then refuse .range s
      else if marksInRing s.cfg base size then refuse .conflict s
      else if (ringWords base size).any (windowCovers s.cfg) then refuse .conflict s
      else
        accept { s with cfg.ringBase := base, cfg.ringSize := size, recs.prod := 0, recs.cons := 0, recs.lost := 0 }

/-! ### Time base, blanking, stall limit, share -/

/-- Whether the BLANK pin stands at the blanking level of a source; none under IMMEDIATE (R98, R99). -/
def blankingFromPin (source : SyncSource) (high : Bool) : Option Bool :=
  match source with
  | .blankHigh => some high
  | .blankLow => some (!high)
  | .immediate => none

/-- SYNC (R98, R99). -/
def cmdSync (source : Byte) (s : State) : CommandOut :=
  if s.part ≠ .pass then refuse .state s
  else
    match sourceOfByte source with
    | none => refuse .range s
    | some v => accept { s with cfg.source := v, sync.blanking := blankingFromPin v s.blank }

/-- TICK (R97). -/
def cmdTick (cycles : Byte) (s : State) : CommandOut :=
  if s.part ≠ .pass then refuse .state s
  else if cycles = 0#8 then refuse .range s
  else accept { s with cfg.tick := cycles, sync.clkCycles := 0 }

/-- STALL (R120). -/
def cmdStall (limit : Half) (s : State) : CommandOut := accept { s with cfg.stall := limit }

/-- ARBITRATION (R155). -/
def cmdArbitration (share : Byte) (s : State) : CommandOut :=
  if 1 ≤ share.toNat ∧ share.toNat ≤ 64 then accept { s with cfg.share := share } else refuse .range s

/-! ### Part state, batches -/

/-- ENGAGE (R169, R82). -/
def cmdEngage (s : State) : CommandOut :=
  if s.part ≠ .pass then refuse .state s
  else if s.cfg.ringSize = 0 then refuse .state s
  else if s.cfg.marks = none then refuse .state s
  else accept (openBatch 0 { s with part := .engaged })

/-- A cause (a) stall becomes cause (c); one already expired extends the horizon to every non-OPEN batch (R122). -/
def stallToPass (s : State) : State :=
  let s := { s with stall.cause := .pass, stall.forceCloseOwed := false }
  if s.stall.expired then extendHorizonTo (youngestNonOpen s) s else s

/-- The write in progress when DISENGAGE executes (R71, R122). -/
def disengageWrite (s : State) : State :=
  match s.sys with
  | .write w =>
    match w.phase with
    | .waitPlace => stallToPass (setWrite { w with phase := .waitPass } s)
    | .waitCommitPlace => stallToPass (setWrite { w with phase := .waitPass, readData := none } s)
    | .waitSlot => stepMemory w (endStall s)
    | .destRequested | .destInFlight => setWrite { w with leftEngaged := true } s
    | .waitPass | .writeRequested | .writeInFlight => s
  | .read _ => s
  | .idle => s

/-- The open batch closes without another opening, and every HELD batch becomes CLOSED (R82). -/
def disengageBatches (s : State) : State :=
  releaseAll
    (match openSlot s with
      | some i => closeSlot .command i s
      | none => s)

/-- DISENGAGE (R170). -/
def cmdDisengage (s : State) : CommandOut :=
  if s.part ≠ .engaged then refuse .state s
  else
    let s := disengageBatches { s with part := .quiescing, batch.pendingClose := false }
    accept (engineTest (disengageWrite { s with stall.forceCloseOwed := false }))

/-- The open batch's entries leave the buffer, and a write that waits for a place takes one (R53, R40). -/
def discardOpen (s : State) : State :=
  match openSlot s with
  | none => s
  | some i => if slotHasEntries i s then placeFreed (removeSlotEntries i s) else s

/-- DISCARD (R93, R53). -/
def cmdDiscard (s : State) : CommandOut :=
  if s.part ≠ .engaged then refuse .state s else accept (discardOpen s)

/-- FLUSH in ENGAGED: its close when a slot is FREE, and otherwise a pending close (R127, R128). -/
def flushEngaged (s : State) : State :=
  if (freeSlot s).isSome then
    let s := closeAndForce .command s
    let s := releaseAll s
    extendHorizonTo (youngestNonOpen s) s
  else
    let s := releaseAll s
    extendHorizonTo (youngestNonOpen s) { s with batch.pendingClose := true }

/-- FLUSH (R127). -/
def cmdFlush (s : State) : CommandOut :=
  match s.part with
  | .pass => refuse .state s
  | .engaged => accept (engineTest (flushEngaged s))
  | .quiescing => accept (engineTest (extendHorizonTo (youngestNonOpen s) s))

/-! ### Transactions -/

/-- A command executes: its result code and response data are shifted out next; the last byte in shifted out 0xFF (R160,
R161). -/
def execute (run : State → CommandOut) (s : State) : State :=
  { (run s).next with
    setup.phase := .executed ((run s).code.byte :: (run s).data) false
    setup.sdo := some Config.idleByte }

/-- Bytes clocked after the command has executed: the result and the response go out, then 0xFF (R160, R161). -/
def clockOut (n : Nat) (s : State) : State :=
  match s.setup.phase with
  | .executed out _ =>
    if n = 0 then s
    else
      { s with setup.phase := .executed (out.drop n) true
               setup.sdo := some ((out.drop (n - 1)).headD Config.idleByte) }
  | .noTransaction | .blocked | .assembling _ => s

/-- A setup-command row: the bytes of the command that are not yet in assembly arrive, and with the last one it executes
(R161). Where the port takes no bytes they are ignored (R160, R164; SDO in a blocked port: log entry 29); after another
command of the transaction they are not taken as a second command (R160). Log entries 5 and 6. -/
def deliver (bytes : List Byte) (run : State → CommandOut) (s : State) : Result :=
  if s.resetn = false then .next s
  else
    match s.setup.phase with
    | .noTransaction => .next s
    | .blocked => .next s
    | .executed _ _ => .next (clockOut bytes.length s)
    | .assembling got =>
      if got.length < bytes.length ∧ got = bytes.take got.length then .next (execute run s)
      else .fault .notTheCommandInAssembly

/-- The command executed by its parsed bytes. -/
def runCommand (c : SetupCommand) (s : State) : CommandOut :=
  match c with
  | .ident => cmdIdent s
  | .status => cmdStatus s
  | .events => cmdEvents s
  | .clear f => cmdClear f s
  | .mask m => cmdMask m s
  | .winWrite p => cmdWinWrite p s
  | .winRead i => cmdWinRead i s
  | .winEnable i => cmdWinEnable i s
  | .winDisable i => cmdWinDisable i s
  | .marks c r k => cmdMarks c r k s
  | .ring b z => cmdRing b z s
  | .sync v => cmdSync v s
  | .stall l => cmdStall l s
  | .arbitration v => cmdArbitration v s
  | .tick v => cmdTick v s
  | .engage => cmdEngage s
  | .disengage => cmdDisengage s
  | .discard => cmdDiscard s
  | .flush => cmdFlush s
  | .counters o => cmdCounters o s
  | .errinfo => cmdErrinfo s
  | .softReset => cmdSoftReset s

/-- A byte taken into the command in assembly: the command executes when it is complete, an unassigned command byte
executes with UNKNOWN, and otherwise the assembly grows (R160, R161, R162). -/
def takeByte (got : List Byte) (b : Byte) (s : State) : State :=
  match parseCommand (got ++ [b]) with
  | some c => execute (runCommand c) s
  | none =>
    if ((got ++ [b]).head?.bind paramCount).isNone then execute (refuse .unknown) s
    else { s with setup.phase := .assembling (got ++ [b]), setup.sdo := some Config.idleByte }

/-- SETUP_BYTE_SHIFTED (R160, R161, R162, R164). With the port blocked after a pin reset the byte is not taken (R164), and
that it shifts nothing out, SDO staying undriven until CSn has risen and fallen again, is the model's choice (log entry
29): R164 does not say when SDO is driven again. -/
def execSetupByteShifted (sdi : Byte) (s : State) : Result :=
  if s.resetn = false then .next s
  else
    match s.setup.phase with
    | .noTransaction => .next s
    | .blocked => .next s
    | .executed _ _ => .next (clockOut 1 s)
    | .assembling got => .next (takeByte got sdi s)

/-- TRANSACTION_START: CSn falls and a transaction begins with nothing in assembly (R160). While RESETn is low, nothing is
taken until CSn has risen and fallen again (R164; SDO until then: log entry 29). A CSn that is low cannot fall (log entry
8). -/
def execTransactionStart (s : State) : Result :=
  match s.setup.phase with
  | .noTransaction =>
    .next { s with setup.phase := if s.resetn then .assembling [] else .blocked, setup.sdo := none }
  | .blocked => .next s
  | .assembling _ => .next s
  | .executed _ _ => .next s

/-- UNKNOWN_COMMAND: the command byte names no command; result UNKNOWN, no effect (R162). -/
def execUnknownCommand (code : Byte) (s : State) : Result :=
  if (paramCount code).isSome then .fault .notTheCommandInAssembly
  else deliver [code] (refuse .unknown) s

/-! ### The command rows -/

/-- IDENT (R165). -/
def execIdent (s : State) : Result := deliver SetupCommand.ident.bytes cmdIdent s

/-- STATUS (R166). -/
def execStatus (s : State) : Result := deliver SetupCommand.status.bytes cmdStatus s

/-- EVENTS (R173). -/
def execEvents (s : State) : Result := deliver SetupCommand.events.bytes cmdEvents s

/-- CLEAR (R173). -/
def execClear (f : Byte) (s : State) : Result := deliver (SetupCommand.clear f).bytes (cmdClear f) s

/-- MASK (R174). -/
def execMask (m : Byte) (s : State) : Result := deliver (SetupCommand.mask m).bytes (cmdMask m) s

/-- WIN_WRITE (R5, R6). -/
def execWinWrite (p : WinParams) (s : State) : Result := deliver (SetupCommand.winWrite p).bytes (cmdWinWrite p) s

/-- WIN_READ (R7). -/
def execWinRead (i : Byte) (s : State) : Result := deliver (SetupCommand.winRead i).bytes (cmdWinRead i) s

/-- WIN_ENABLE (R8). -/
def execWinEnable (i : Byte) (s : State) : Result := deliver (SetupCommand.winEnable i).bytes (cmdWinEnable i) s

/-- WIN_DISABLE (R10). -/
def execWinDisable (i : Byte) (s : State) : Result := deliver (SetupCommand.winDisable i).bytes (cmdWinDisable i) s

/-- MARKS (R84). -/
def execMarks (c r k : WordAddr) (s : State) : Result := deliver (SetupCommand.marks c r k).bytes (cmdMarks c r k) s

/-- RING (R133). -/
def execRing (base : WordAddr) (z : Byte) (s : State) : Result :=
  deliver (SetupCommand.ring base z).bytes (cmdRing base z) s

/-- SYNC (R98). -/
def execSync (v : Byte) (s : State) : Result := deliver (SetupCommand.sync v).bytes (cmdSync v) s

/-- TICK (R97). -/
def execTick (v : Byte) (s : State) : Result := deliver (SetupCommand.tick v).bytes (cmdTick v) s

/-- STALL (R120). -/
def execStall (l : Half) (s : State) : Result := deliver (SetupCommand.stall l).bytes (cmdStall l) s

/-- ARBITRATION (R155). -/
def execArbitration (v : Byte) (s : State) : Result :=
  deliver (SetupCommand.arbitration v).bytes (cmdArbitration v) s

/-- ENGAGE (R169). -/
def execEngage (s : State) : Result := deliver SetupCommand.engage.bytes cmdEngage s

/-- DISENGAGE (R170). -/
def execDisengage (s : State) : Result := deliver SetupCommand.disengage.bytes cmdDisengage s

/-- DISCARD (R93). -/
def execDiscard (s : State) : Result := deliver SetupCommand.discard.bytes cmdDiscard s

/-- FLUSH (R127). -/
def execFlush (s : State) : Result := deliver SetupCommand.flush.bytes cmdFlush s

/-- COUNTERS (R176). -/
def execCounters (option : Byte) (s : State) : Result :=
  deliver (SetupCommand.counters option).bytes (cmdCounters option) s

/-- COUNTERS with the clear option (R176). -/
def execCountersClear (s : State) : Result := deliver (SetupCommand.counters 0x01).bytes (cmdCounters 0x01) s

/-- ERRINFO (R167). -/
def execErrinfo (s : State) : Result := deliver SetupCommand.errinfo.bytes cmdErrinfo s

/-- SOFT_RESET (R177). -/
def execSoftReset (s : State) : Result := deliver SetupCommand.softReset.bytes cmdSoftReset s

end Sys2Proof.Machine
end

