-- ==== Sys2Proof/Machine/Resets.lean ====
section
/-! DEFINITION. The two resets (10.6), the pin events and the time base (chapter 6). -/

namespace Sys2Proof.Machine

/-! ### What a reset does to work in progress (R179) -/

/-- A system write at a reset: a granted memory write completes; a destination read's data will be discarded; any other
write becomes a plain write waiting at the arbiter (R72, R131, R147). It keeps the mark fixed at its acceptance (R56); for a
pin reset this is the model's choice (log entry 28). -/
def WriteJob.afterReset (w : WriteJob) : WriteJob :=
  match w.phase with
  | .writeInFlight => w
  | .destRequested => w.asPlain
  | .destInFlight => w.asPlain
  | .waitPlace | .waitSlot | .waitPass | .waitCommitPlace | .writeRequested =>
    { w.asPlain with phase := .writeRequested }

/-- The system request in progress at a reset; a read stands as it is (R49, R72, R147). -/
def SysPort.afterReset : SysPort → SysPort
  | .idle => .idle
  | .read r => .read r
  | .write w => .write w.afterReset

/-- The runtime state a reset clears: the "Cleared" column of Table 10-5, with the configuration as given (R177, R178).
The request in flight completes, its ERROR unreported (R150, R159); the blanking state is taken from BLANK (R99). -/
def clearRuntime (cfg : Settings) (s : State) : State :=
  { s with
    cfg := cfg
    part := .pass
    ev := { flags := 0, counters := Counters.zero, errinfo := none }
    buf := { entries := [], highWater := 0 }
    batch := BatchQueue.reset
    sync := { clkCycles := 0, blanking := blankingFromPin cfg.source s.blank, frameCounter := 0 }
    drain := DrainEngine.reset
    stall := Stall.reset
    recs := RecordUnit.reset
    sys := s.sys.afterReset
    waits := Waits.zero
    inFlight := s.inFlight.map fun f => { f with cutOff := true } }

/-- The consumer count of a consumer store that a reset completes as plain, none for any other request (R72, R143). The mark
is the one fixed at acceptance (R56), which WriteJob.afterReset keeps. That it counts even for a store still in progress
since a pin reset, when no word is watched (R85), is the model's choice (log entry 28). -/
def snoopAfterReset (p : SysPort) : Option Half :=
  match p with
  | .write w =>
    if w.mark = some .consumer ∧ w.phase ≠ .writeInFlight then some (consumerCount w.data) else none
  | .read _ => none
  | .idle => none

/-- A soft reset takes effect (R177); a consumer store completed as plain is snooped again, against P = C = 0 (R143). -/
def softReset (s : State) : State :=
  let t := clearRuntime s.cfg s
  match snoopAfterReset s.sys with
  | some n => snoopConsumer n t
  | none => t

/-! ### Pin events -/

/-- TRANSACTION_END: CSn rises. An incomplete command is discarded (R162); a pending soft reset takes effect when the
whole result byte has been shifted out, and is cancelled otherwise (R177). -/
def execTransactionEnd (s : State) : Result :=
  let ended := { s with setup := { phase := .noTransaction, sdo := none, softResetPending := false } }
  match s.setup.phase with
  | .executed _ resultOut => if s.setup.softResetPending && resultOut then .next (softReset ended) else .next ended
  | .assembling _ => .next ended
  | .blocked => .next ended
  | .noTransaction => .next s

/-- PIN_RESET: RESETn falls; every block takes its pin-reset values and any transaction is abandoned (R178, R164). A
RESETn that is low cannot fall (log entry 8). -/
def execPinReset (s : State) : Result :=
  if s.resetn then
    let phase : SetupPhase := if s.setup.phase = .noTransaction then .noTransaction else .blocked
    .next
      { clearRuntime Settings.reset s with
        resetn := false
        setup := { phase := phase, sdo := none, softResetPending := false } }
  else .next s

/-- RESETN_RISE: the blanking state is taken from BLANK and the cycle count starts from 0 (R178, R99). A
setup port that finds CSn low stays blocked (R164), with SDO undriven (log entry 29). -/
def execResetnRise (s : State) : Result :=
  if s.resetn then .next s
  else
    .next { s with resetn := true, sync.clkCycles := 0, sync.blanking := blankingFromPin s.cfg.source s.blank }

/-! ### Time base -/

/-- The stall timer counts a tick while the stall is active, not expired and below its limit (R121). -/
def Stall.tick (t : Stall) : Stall :=
  if t.active && !t.expired && decide (t.elapsed < t.limit) then { t with elapsed := t.elapsed + 1 } else t

/-- The drain ticks count while a batch is DRAINING, saturating (R104). -/
def DrainEngine.tick (d : DrainEngine) : DrainEngine :=
  if d.current.isSome then { d with ticks := countUp d.ticks } else d

/-- TIME_BASE_TICK: the cycle count restarts, and the two mechanisms that count ticks advance (R96). While RESETn is low
no tick is counted (R178). -/
def execTimeBaseTick (s : State) : Result :=
  if s.resetn then .next { s with sync.clkCycles := 0, stall := s.stall.tick, drain := s.drain.tick } else .next s

/-- STALL_EXPIRY: the stall timer stands at its limit and the expiry is taken (R121). A stall that has ended or already
expired has none. -/
def execStallExpiry (s : State) : Result := if expiryDue s then .next (expireStall s) else .next s

/-! ### Blanking -/

/-- A blank start: the frame counter, the Frames counter and the drain engine (R99, R100, R102, R103). -/
def raiseBlankStart (s : State) : State :=
  let s := { s with sync.blanking := some true, sync.frameCounter := s.sync.frameCounter + 1 }
  engineTest (extendDrainSet (modCounters Counters.addFrame s))

/-- A blank end: the blanking state alone (R99). -/
def raiseBlankEnd (s : State) : State := { s with sync.blanking := some false }

/-- The BLANK input takes a level: under a BLANK source, with RESETn high, a change into or out of the blanking level
raises its event (R99); under IMMEDIATE and while RESETn is low there is none (R99, R178). -/
def driveBlank (high : Bool) (s : State) : State :=
  let t := { s with blank := high }
  if s.resetn then
    match s.sync.blanking, blankingFromPin s.cfg.source high with
    | some false, some true => raiseBlankStart t
    | some true, some false => raiseBlankEnd t
    | _, _ => t
  else t

/-- BLANK_START: BLANK enters the blanking level of the SYNC source; under IMMEDIATE there is none (R99). -/
def execBlankStart (s : State) : Result :=
  match s.cfg.source with
  | .blankHigh => .next (driveBlank true s)
  | .blankLow => .next (driveBlank false s)
  | .immediate => .next s

/-- BLANK_END: BLANK leaves the blanking level of the SYNC source; under IMMEDIATE there is none (R99). -/
def execBlankEnd (s : State) : Result :=
  match s.cfg.source with
  | .blankHigh => .next (driveBlank false s)
  | .blankLow => .next (driveBlank true s)
  | .immediate => .next s

/-- BLANK_PIN_CHANGE: the pin takes a level; STATUS reports it under every source (R99). Where the change would raise an
event under R99 it raises it (log entry 13). -/
def execBlankPinChange (high : Bool) (s : State) : Result := .next (driveBlank high s)

end Sys2Proof.Machine
end

