-- ==== Sys2Proof/Machine/Dispatch.lean ====
section
/-! DEFINITION. One arm per command. -/

namespace Sys2Proof.Machine

def exec (i : Instr) (s : State) : Host.Outcome State Fault Refusal :=
  match i with
  | .transactionStart => Sys2Proof.Machine.execTransactionStart s
  | .transactionEnd => Sys2Proof.Machine.execTransactionEnd s
  | .unknownCommand x => Sys2Proof.Machine.execUnknownCommand x s
  | .ident => Sys2Proof.Machine.execIdent s
  | .status => Sys2Proof.Machine.execStatus s
  | .events => Sys2Proof.Machine.execEvents s
  | .clear x => Sys2Proof.Machine.execClear x s
  | .mask x => Sys2Proof.Machine.execMask x s
  | .winWrite x => Sys2Proof.Machine.execWinWrite x s
  | .winRead x => Sys2Proof.Machine.execWinRead x s
  | .winEnable x => Sys2Proof.Machine.execWinEnable x s
  | .winDisable x => Sys2Proof.Machine.execWinDisable x s
  | .marks x y z => Sys2Proof.Machine.execMarks x y z s
  | .ring x y => Sys2Proof.Machine.execRing x y s
  | .sync x => Sys2Proof.Machine.execSync x s
  | .tick x => Sys2Proof.Machine.execTick x s
  | .stall x => Sys2Proof.Machine.execStall x s
  | .arbitration x => Sys2Proof.Machine.execArbitration x s
  | .engage => Sys2Proof.Machine.execEngage s
  | .disengage => Sys2Proof.Machine.execDisengage s
  | .discard => Sys2Proof.Machine.execDiscard s
  | .flush => Sys2Proof.Machine.execFlush s
  | .counters x => Sys2Proof.Machine.execCounters x s
  | .countersClear => Sys2Proof.Machine.execCountersClear s
  | .errinfo => Sys2Proof.Machine.execErrinfo s
  | .softReset => Sys2Proof.Machine.execSoftReset s
  | .pinReset => Sys2Proof.Machine.execPinReset s
  | .resetnRise => Sys2Proof.Machine.execResetnRise s
  | .timeBaseTick => Sys2Proof.Machine.execTimeBaseTick s
  | .stallExpiry => Sys2Proof.Machine.execStallExpiry s
  | .blankStart => Sys2Proof.Machine.execBlankStart s
  | .blankEnd => Sys2Proof.Machine.execBlankEnd s
  | .systemRead x y => Sys2Proof.Machine.execSystemRead x y s
  | .systemWrite x y z => Sys2Proof.Machine.execSystemWrite x y z s
  | .refreshRead x y => Sys2Proof.Machine.execRefreshRead x y s
  | .refreshWrite x y => Sys2Proof.Machine.execRefreshWrite x y s
  | .arbiterGrant => Sys2Proof.Machine.execArbiterGrant s
  | .systemReadResponse x => Sys2Proof.Machine.execSystemReadResponse x s
  | .destinationReadResponse x => Sys2Proof.Machine.execDestinationReadResponse x s
  | .immediateWriteResponse x => Sys2Proof.Machine.execImmediateWriteResponse x s
  | .drainReadResponse x => Sys2Proof.Machine.execDrainReadResponse x s
  | .drainWriteResponse x => Sys2Proof.Machine.execDrainWriteResponse x s
  | .recordWriteResponse x => Sys2Proof.Machine.execRecordWriteResponse x s
  | .refreshReadResponse x => Sys2Proof.Machine.execRefreshReadResponse x s
  | .setupByteShifted x => Sys2Proof.Machine.execSetupByteShifted x s
  | .blankPinChange x => Sys2Proof.Machine.execBlankPinChange x s

end Sys2Proof.Machine
end

