-- ==== Sys2Proof/Safety.lean ====
section
/-! DEFINITION. What holds of the part between steps: the invariants the spec states in its prose, and the two views of
frame memory (00_scope.md 4.5). -/

namespace Sys2Proof.Machine

/-! ### Hold buffer -/

/-- Every entry has a non-empty lane set and is identity outside it (R33). -/
def Entry.wf (e : Entry) : Prop := e.lanes ≠ 0#4 ∧ e.xf.restrict e.lanes = e.xf

/-- No two entries have the same word address and the same batch slot (R32), and every entry is as R33 says. -/
def bufferWf (s : State) : Prop :=
  (∀ e ∈ s.buf.entries, e.wf) ∧ s.buf.entries.Pairwise fun a b => ¬(a.word = b.word ∧ a.slot = b.slot)

/-- At most 1024 places are in use, and the high-water mark is at least the occupancy and at most 1024 (R32, R55). -/
def capacityWf (s : State) : Prop :=
  placesUsed s ≤ Config.holdCapacity ∧ occupancy s ≤ s.buf.highWater ∧ s.buf.highWater ≤ Config.holdCapacity

/-! ### Counters and counts -/

/-- The event counters are at most 65,535 (R175). -/
def countersWf (s : State) : Prop :=
  s.ev.counters.frames ≤ Config.countLimit ∧ s.ev.counters.batchesDrained ≤ Config.countLimit
    ∧ s.ev.counters.tornBatches ≤ Config.countLimit ∧ s.ev.counters.forcedBatches ≤ Config.countLimit
    ∧ s.ev.counters.stalls ≤ Config.countLimit ∧ s.ev.counters.stallExpiries ≤ Config.countLimit
    ∧ s.ev.counters.recordsLost ≤ Config.countLimit ∧ s.ev.counters.memoryErrors ≤ Config.countLimit

/-- The wait counts, the drain ticks and the lost count are within their ranges (R154, R104, R136). -/
def countsWf (s : State) : Prop :=
  s.waits.record ≤ Config.countLimit ∧ s.waits.drain ≤ Config.countLimit ∧ s.waits.system ≤ Config.countLimit
    ∧ s.drain.ticks ≤ Config.countLimit ∧ s.recs.lost ≤ Config.byteLimit

/-! ### Records -/

/-- The ring sizes RING can set (R133). -/
def ringSizeWf (s : State) : Prop := s.cfg.ringSize = 0 ∨ (4 ≤ s.cfg.ringSize ∧ s.cfg.ringSize ≤ 256)

/-- The queue holds at most four records (R136); a record in progress is the head of the queue (R137). -/
def recordQueueWf (s : State) : Prop :=
  s.recs.records.length ≤ Config.recordQueueDepth ∧ (recordInProgress s = true → s.recs.records ≠ [])

/-- The written and unconsumed records never exceed the ring size, and leave room while a record is in progress (R141). -/
def ringRoomWf (s : State) : Prop :=
  ringSizeWf s ∧ unread s ≤ s.cfg.ringSize ∧ (recordInProgress s = true → unread s < s.cfg.ringSize)

/-! ### Windows, watched words and the ring -/

/-- Every window of the table has legal fields (R2, R6). -/
def windowsLegal (s : State) : Prop := ∀ i : Fin 16, (windowAt i s).legal = true

/-- No enabled window covers a watched word or a ring word (R9). -/
def windowsApart (s : State) : Prop :=
  ∀ i : Fin 16, (windowAt i s).enabled = true → ∀ w ∈ protectedWords s.cfg, (windowAt i s).covers w = false

/-- SHARE is from 1 to 64, TICK is not 0, and the ring ends inside frame memory (R155, R97, R133). -/
def settingsWf (s : State) : Prop :=
  1 ≤ s.cfg.share.toNat ∧ s.cfg.share.toNat ≤ 64 ∧ s.cfg.tick ≠ 0#8
    ∧ s.cfg.ringBase.toNat + 4 * s.cfg.ringSize ≤ Config.frameWords

/-! ### The hold buffer against the slots and the protected words -/

/-- Every entry belongs to a slot that is not FREE, and in PASS the hold buffer is empty (R35). -/
def entriesPlaced (s : State) : Prop :=
  (∀ e ∈ s.buf.entries, slotState e.slot s ≠ .free) ∧ (s.part = .pass → s.buf.entries = [])

/-- Whether a write in progress may still make an entry: it has lanes to hold, and its commit is neither made nor refused
(R44, R71, R72). -/
def WriteJob.mayCommit (w : WriteJob) : Bool :=
  w.lanesToHold != 0#4 &&
    match w.phase with
    | .waitPlace | .waitSlot | .waitCommitPlace => true
    | .destRequested | .destInFlight => !w.plain && !w.leftEngaged
    | .waitPass | .writeRequested | .writeInFlight => false

/-- No entry addresses a watched word or a ring word, and no write in progress can make one that does (R38): a write that
may still commit stands in ENGAGED, and a destination read in flight is that of the write in progress. -/
def entriesApart (s : State) : Prop :=
  (∀ e ∈ s.buf.entries, e.word ∉ protectedWords s.cfg)
    ∧ (∀ w, s.sys = .write w → w.mayCommit = true → s.part = .engaged ∧ w.word ∉ protectedWords s.cfg)
    ∧ ∀ f, s.inFlight = some f → f.req.kind = .destinationRead → ∃ w, s.sys = .write w ∧ w.phase = .destInFlight

/-! ### Batches and the drain engine -/

/-- How many slots are in a state. -/
def countSlots (v : SlotState) (s : State) : Nat := ([0, 1, 2, 3].filter fun i => slotState i s == v).length

/-- Exactly one slot is OPEN in ENGAGED, and none in PASS and QUIESCING (R80). -/
def oneOpen (s : State) : Prop :=
  (s.part = .engaged → countSlots .opened s = 1) ∧ (s.part ≠ .engaged → countSlots .opened s = 0)

/-- The current slot is the one DRAINING slot, and no slot is DRAINING while the engine is idle (R76, R101). -/
def drainingWf (s : State) : Prop := ∀ i : SlotIx, slotState i s = .draining ↔ s.drain.current = some i

/-- In PASS every slot is FREE (R80). -/
def passFree (s : State) : Prop := s.part = .pass → ∀ i : SlotIx, slotState i s = .free

/-- The three rules above together. -/
def batchesWf (s : State) : Prop := oneOpen s ∧ drainingWf s ∧ passFree s

/-- While a stall is active its elapsed count is at most its limit (R121). -/
def stallTimerWf (s : State) : Prop := s.stall.active = true → s.stall.elapsed.toNat ≤ s.stall.limit.toNat

/-! ### The words statements are made in -/

/-- The setup port can take the rest of a command: RESETn is high, a transaction is assembling, and what it has received
so far are the first bytes of that command, the last one still wanted (R160, R161). -/
def portReady (bytes : List Byte) (s : State) : Prop :=
  s.resetn = true ∧ ∃ got, s.setup.phase = .assembling got ∧ got.length < bytes.length ∧ got = bytes.take got.length

/-- A state just after a command has executed in it: the result byte and the response bytes wait to be shifted out, and
the byte shifted out during the last byte in was 0xFF (R160, R161). -/
def executed (result : Byte) (data : List Byte) (t : State) : State :=
  { t with setup.phase := .executed (result :: data) false, setup.sdo := some 0xFF }

/-- A state in which the memory error of a request has been reported: MEMERR, the Memory errors counter, and ERRINFO when
it was empty (R157, R158); nothing for a request granted before a reset or while RESETn was low (R159). -/
def errorReported (f : InFlight) (s : State) : State :=
  if f.cutOff then s
  else
    let e : ErrInfo := { word := f.req.word, requester := f.req.kind.requester, isWrite := f.req.kind.isWrite }
    { s with
      ev.flags := s.ev.flags ||| 0x20
      ev.counters.memoryErrors :=
        if s.ev.counters.memoryErrors < 65535 then s.ev.counters.memoryErrors + 1 else s.ev.counters.memoryErrors
      ev.errinfo := some (s.ev.errinfo.getD e) }

/-- A stall just begun with a cause (R119). -/
def freshStall (c : StallCause) (s : State) : Stall :=
  { active := true, cause := c, limit := s.cfg.stall, elapsed := 0, expired := false, forceCloseOwed := false }

/-- A write of four plain lanes waiting to write memory (R69, R73). -/
def plainStore (word : WordAddr) (data : Word) (mark : Option MarkKind) (inPass : Bool) : WriteJob :=
  { word := word, lanes := 0xF, data := data, mark := mark, classes := ⟨.plain, .plain, .plain, .plain⟩,
    xf := { keep := 0, flip := data }, reserved := false, readData := none, plain := inPass, leftEngaged := false,
    phase := .writeRequested }

/-- The record of a batch that has just opened (R81). -/
def freshSlot (seq : Half) : Slot := { Slot.cleared with state := .opened, sequence := seq }

/-- A word that no enabled window covers and that has no held lane, as every watched word is (R9, R38). -/
def ordinaryWord (word : WordAddr) (s : State) : Prop :=
  windowCovers s.cfg word = false ∧ heldLanes word s = 0#4

/-- Some enabled lane of a write is deferrable: it is held, or it is resolved to a DEFER window, keyed out or not (R70). -/
def someDeferrable (s : State) (word : WordAddr) (lanes : LaneMask) : Prop :=
  ∃ i : LaneIx, hasLane lanes i = true
    ∧ (hasLane (heldLanes word s) i = true ∨ (resolve s (bytePosition word i)).any (fun w => w.mode == .defer) = true)

/-- The write in progress, if there is one, waits for no place in the hold buffer (R40). -/
def waitsForNoPlace (s : State) : Prop :=
  ∀ w, s.sys = .write w → w.phase ≠ .waitPlace ∧ w.phase ≠ .waitCommitPlace

/-! ### The two views (4.5) -/

/-- Frame memory as a map from word addresses, for statements that speak of it; it is outside the part (log entry 1). -/
abbrev Frame := WordAddr → Word

/-- A write performed by frame memory: exactly the enabled bytes change (R150). -/
def Frame.write (m : Frame) (word : WordAddr) (lanes : LaneMask) (data : Word) : Frame :=
  fun a => if a = word then (m a &&& ~~~laneBits lanes) ||| (data &&& laneBits lanes) else m a

/-- Frame memory after the request in flight at the port is performed (R150). -/
def Frame.perform (m : Frame) (q : MemRequest) : Frame :=
  if q.kind.isWrite then m.write q.word q.lanes q.data else m

/-- The system view of a word: the held entries, oldest batch first, applied to what frame memory holds (R48, R50). -/
def systemView (m : Frame) (s : State) (word : WordAddr) : Word := (composed word s).apply (m word)

end Sys2Proof.Machine
end

