-- ==== Sys2Proof/WellFormed.lean ====
section
/-! DEFINITION. Which operands spell a command of their own row. Every other operand value is one the hardware can meet:
the part checks it itself and answers a result code. -/

namespace Sys2Proof

/-- A command byte that Table 11-4 assigns. -/
def assignedCode (code : Byte) : Bool :=
  code.toNat ∈ [0x01, 0x02, 0x03, 0x04, 0x05, 0x10, 0x11, 0x12, 0x13, 0x20, 0x21, 0x22, 0x23, 0x24, 0x25,
    0x30, 0x31, 0x32, 0x33, 0x40, 0x41, 0x7F]

/-- UNKNOWN_COMMAND carries a byte that names no command (R162); COUNTERS carries an option other than 0x01, whose row is
COUNTERS_CLEAR (R176). -/
def Instr.wellFormed : Instr → Bool
  | .unknownCommand code => !assignedCode code
  | .counters option => option != 0x01#8
  | .transactionStart | .transactionEnd | .ident | .status | .events | .clear _ | .mask _ | .winWrite _ | .winRead _
  | .winEnable _ | .winDisable _ | .marks _ _ _ | .ring _ _ | .sync _ | .tick _ | .stall _ | .arbitration _
  | .engage | .disengage | .discard | .flush | .countersClear | .errinfo | .softReset | .pinReset | .resetnRise
  | .timeBaseTick | .stallExpiry | .blankStart | .blankEnd | .systemRead _ _ | .systemWrite _ _ _ | .refreshRead _ _
  | .refreshWrite _ _ | .arbiterGrant | .systemReadResponse _ | .destinationReadResponse _
  | .immediateWriteResponse _ | .drainReadResponse _ | .drainWriteResponse _ | .recordWriteResponse _
  | .refreshReadResponse _ | .setupByteShifted _ | .blankPinChange _ => true

end Sys2Proof
end

