-- ==== Sys2Proof/Certificates/Slice0/Obligations.lean ====
section
/-! DEFINITION. The statements for the provers. Each docstring names the rule of spec/ it is about; where a clause rests on
the model's own choice it names the log entry. -/

open Sys2Proof Sys2Proof.Machine

/-! ### The queue, reset and the invariants -/

/-- A step takes the command at the front of the queue and runs exec on it with the queue's rest; on an empty queue the
block idles (the model's choice, log entry 12). -/
def Obligations.StepRunsFrontCommand : Prop :=
  (∀ (c : Instr) (rest : List Instr) (s : State),
      step { s with pending := c :: rest } = exec c { s with pending := rest })
    ∧ ∀ s : State, s.pending = [] → step s = .next s

/-- The part after a pin reset, item by item as the spec says (R178, R2, R85, R134, R98, R96, R120, R155, R174, R172,
R175, R83, R54, R143, R156, R158), a window after reset by the twelve fields of Table 1-2, and the cleared counters, slot
records and units field by field (the sequence of a FREE slot, the inactive stall's cause and limit and the idle engine's
ticks are log entry 3's choice); the queue of commands is the model's own and empty (log entry 17). The invariants that
the step statements keep hold there. -/
def Obligations.ResetState : Prop :=
  (State.reset.part = .pass ∧ (∀ i : Fin 16, windowAt i State.reset = Window.reset) ∧ State.reset.cfg.marks = none
    ∧ State.reset.cfg.ringSize = 0 ∧ State.reset.cfg.ringBase = 0 ∧ State.reset.cfg.source = .blankHigh
    ∧ State.reset.cfg.tick = 25 ∧ State.reset.cfg.stall = 20000 ∧ State.reset.cfg.share = 8
    ∧ State.reset.cfg.mask = 0 ∧ State.reset.ev.flags = 0 ∧ State.reset.ev.errinfo = none
    ∧ State.reset.ev.counters = Counters.zero ∧ State.reset.buf.entries = [] ∧ State.reset.buf.highWater = 0
    ∧ (∀ i : SlotIx, slotOf i State.reset = Slot.cleared) ∧ State.reset.batch.seqCounter = 0
    ∧ State.reset.batch.pendingClose = false ∧ State.reset.drain.current = none ∧ State.reset.drain.setEnd = none
    ∧ State.reset.drain.horizon = none ∧ State.reset.stall.active = false ∧ State.reset.recs.records = []
    ∧ State.reset.recs.writer = .idle ∧ State.reset.recs.prod = 0 ∧ State.reset.recs.cons = 0
    ∧ State.reset.recs.lost = 0 ∧ State.reset.waits = Waits.zero ∧ State.reset.sync.frameCounter = 0
    ∧ State.reset.sync.clkCycles = 0 ∧ irqLow State.reset = false ∧ State.reset.pending = [])
    ∧ (Window.reset =
          { enabled := false, originWord := 0, originLane := 0, width := 4, height := 1, pitch := 1, format := .p8,
            mode := .direct, raster := 0xA, keyEnable := false, keyValue := 0, keyMask := 0xFFFFFFFF }
      ∧ Counters.zero =
          { frames := 0, batchesDrained := 0, tornBatches := 0, forcedBatches := 0, stalls := 0, stallExpiries := 0,
            recordsLost := 0, memoryErrors := 0 }
      ∧ Slot.cleared =
          { state := .free, sequence := 0, tag := 0, wasHeld := false, commandClosed := false, forceClosed := false,
            closeFrame := 0, torn := false, forced := false, memErr := false, entriesDrained := 0, rmwCount := 0,
            memErrors := 0, frameAtStart := 0, drainTime := 0 }
      ∧ Waits.zero = { record := 0, drain := 0, system := 0 }
      ∧ BatchQueue.reset =
          { slots := ⟨Slot.cleared, Slot.cleared, Slot.cleared, Slot.cleared⟩, seqCounter := 0, pendingClose := false }
      ∧ DrainEngine.reset =
          { current := none, entry := none, access := .none, readData := none, setEnd := none, horizon := none, ticks := 0 }
      ∧ Stall.reset =
          { active := false, cause := .place, limit := 0, elapsed := 0, expired := false, forceCloseOwed := false }
      ∧ RecordUnit.reset = { records := [], writer := .idle, prod := 0, cons := 0, lost := 0 })
    ∧ bufferWf State.reset ∧ capacityWf State.reset ∧ recordQueueWf State.reset ∧ ringRoomWf State.reset
    ∧ batchesWf State.reset ∧ windowsLegal State.reset ∧ windowsApart State.reset ∧ settingsWf State.reset
    ∧ countersWf State.reset ∧ countsWf State.reset ∧ stallTimerWf State.reset ∧ entriesPlaced State.reset
    ∧ entriesApart State.reset

/-- Every step keeps the hold buffer as R32 and R33 say: one entry for a word and slot, a non-empty lane set, identity
outside it. -/
def Obligations.StepKeepsHoldBuffer : Prop :=
  ∀ s t : State, bufferWf s → step s = .next t → bufferWf t

/-- Every step keeps at most 1024 places in use, the reservation counted, and the high-water mark between the occupancy and
1024 (R32, R55). -/
def Obligations.StepKeepsCapacity : Prop :=
  ∀ s t : State, capacityWf s → step s = .next t → capacityWf t

/-- Every step keeps at most four records queued and the unread records within the ring, with room for the record in
progress (R136, R137, R141). -/
def Obligations.StepKeepsRecords : Prop :=
  ∀ s t : State, recordQueueWf s → ringRoomWf s → step s = .next t → recordQueueWf t ∧ ringRoomWf t

/-- Every step keeps exactly one slot OPEN in ENGAGED and none otherwise, every slot FREE in PASS, and the current slot of
the engine the one DRAINING slot (R80, R76, R101). -/
def Obligations.StepKeepsBatches : Prop :=
  ∀ s t : State, batchesWf s → step s = .next t → batchesWf t

/-- Every step keeps the windows legal (R6), no enabled window over a watched word or a ring word (R9), SHARE and TICK
in range (R155, R97), and the ring inside frame memory (R133). -/
def Obligations.StepKeepsWindows : Prop :=
  ∀ s t : State, windowsLegal s → windowsApart s → settingsWf s → step s = .next t →
    windowsLegal t ∧ windowsApart t ∧ settingsWf t

/-- Every step keeps every entry in a slot that is not FREE, and the hold buffer empty in PASS (R35). -/
def Obligations.StepKeepsEntriesPlaced : Prop :=
  ∀ s t : State, entriesPlaced s → batchesWf s → step s = .next t → entriesPlaced t

/-- Every step keeps the watched words and the ring words without an entry, and without a write that could make one (R38,
R16): the windows stand apart from those words, and the buffer is empty in PASS. -/
def Obligations.StepKeepsEntriesApart : Prop :=
  ∀ s t : State, entriesApart s → entriesPlaced s → batchesWf s → windowsApart s → step s = .next t → entriesApart t

/-- Every step keeps the counters, the wait counts, the lost count, the drain ticks and the stall timer within their ranges
(R175, R154, R136, R104, R121). -/
def Obligations.StepKeepsCounts : Prop :=
  ∀ s t : State, countersWf s → countsWf s → stallTimerWf s → step s = .next t →
    countersWf t ∧ countsWf t ∧ stallTimerWf t

/-- The drain engine's test follows every empty batch to its end: a batch that starts without entries completes, and the
test is made again (R103, R111); after it no batch is left that R103 would start (R110; log entry 19). -/
def Obligations.EngineTestLeavesNothingToStart : Prop :=
  (∀ s : State, startChoice (engineTest s) = none)
    ∧ ∀ (i : SlotIx) (forced : Bool) (s : State), startChoice s = some (i, forced) → oldestEntry i s = none →
        engineTest s = engineTest (completeBatch i (startBatch i forced s))

/-! ### Whole-machine rules -/

/-- The configuration changes only by its own setup commands, by the byte that completes one, and by a pin reset (R1, R2,
R12, R177): no bus access, event, drain or soft reset reaches it. -/
def Obligations.ConfigurationChangesOnlyByItsCommands : Prop :=
  ∀ (c : Instr) (s t : State), exec c s = .next t → t.cfg ≠ s.cfg →
    match c with
    | .mask _ | .winWrite _ | .winEnable _ | .winDisable _ | .marks _ _ _ | .ring _ _ | .sync _ | .tick _ | .stall _
    | .arbitration _ | .pinReset | .setupByteShifted _ => True
    | _ => False

/-- Table 10-2: from PASS the part goes to ENGAGED alone, by ENGAGE; from ENGAGED to QUIESCING by DISENGAGE alone; from
QUIESCING never to ENGAGED; and into PASS with every slot FREE: from QUIESCING when the last slot has become FREE or by a
reset, and from ENGAGED by a reset or by a DISENGAGE whose drain ends in the same step. The two resets are a pin reset and
the CSn rise of a pending soft reset. A command counts as its row or as the one byte that spells it (R168 to R171). -/
def Obligations.PartStateTransitions : Prop :=
  ∀ (c : Instr) (s t : State), exec c s = .next t →
    let engages : Prop := c = .engage ∨ c = .setupByteShifted 0x30 ∧ s.setup.phase = .assembling []
    let disengages : Prop := c = .disengage ∨ c = .setupByteShifted 0x31 ∧ s.setup.phase = .assembling []
    let resets : Prop := c = .pinReset ∨ c = .transactionEnd ∧ s.setup.softResetPending = true
    (s.part = .pass → t.part ≠ .quiescing) ∧ (s.part = .quiescing → t.part ≠ .engaged)
      ∧ (s.part = .pass → t.part = .engaged → engages)
      ∧ (s.part = .engaged → t.part = .quiescing → disengages)
      ∧ (s.part = .engaged → t.part = .pass → resets ∨ disengages)
      ∧ (s.part ≠ .pass → t.part = .pass → ∀ i : SlotIx, slotState i t = .free)

/-- An event flag once set stays set until CLEAR or a reset (R172): every other row keeps it. -/
def Obligations.FlagsStaySet : Prop :=
  ∀ (c : Instr) (s t : State), exec c s = .next t →
    (match c with
      | .clear _ | .setupByteShifted _ | .transactionEnd | .pinReset => False
      | _ => True) →
    s.ev.flags &&& t.ev.flags = s.ev.flags

/-- The grant of a drain write moves its entry from the hold buffer to memory and leaves the system view of every word as it
was (R48, R51): the drained batch is the oldest, the engine's entry is in the buffer, the data it read still stands on the
lanes of the set, and no write is waiting for the place. Frame memory is a map given from outside (log entry 1). -/
def Obligations.DrainGrantKeepsSystemView : Prop :=
  ∀ (m : Frame) (s t : State) (i : SlotIx) (e : Entry) (q : MemRequest),
    bufferWf s → waitsForNoPlace s → s.inFlight = none → choose s = some .drain →
    s.drain.current = some i → s.drain.entry = some e → s.drain.access = .writeRequested →
    drainRequest s = some q → findEntry e.word i s = some e → (queueOrder s).head? = some i →
    (e.xf.keep &&& laneBits e.lanes ≠ 0#32 →
      ∃ d, s.drain.readData = some d ∧ d &&& laneBits e.lanes = m e.word &&& laneBits e.lanes) →
    exec .arbiterGrant s = .next t → ∀ w : WordAddr, systemView (m.perform q) t w = systemView m s w

/-! ### Transforms (chapter 2) -/

/-- R23: applying a transform; a lane whose keep bits are 0 is fully determined, one with a keep bit of 1 depends on the
old value, and identity leaves the value as it is. -/
def Obligations.TransformApplies : Prop :=
  (∀ (t : Transform) (v : Word), t.apply v = (v &&& t.keep) ^^^ t.flip)
    ∧ (∀ (t : Transform) (v : Word) (i : LaneIx), laneByte t.keep i = 0#8 → laneByte (t.apply v) i = laneByte t.flip i)
    ∧ (∀ (t : Transform) (i : LaneIx), laneByte t.keep i ≠ 0#8 →
        ∃ v v' : Word, laneByte (t.apply v) i ≠ laneByte (t.apply v') i)
    ∧ ∀ (t : Transform) (v : Word) (i : LaneIx), t.isIdentityOn i = true → laneByte (t.apply v) i = laneByte v i

/-- R28: composition has the effect of the two applied in turn, is the pair the rule gives, and is what the hold buffer
forms when it folds a write into an entry and when it composes a word's entries. -/
def Obligations.TransformsCompose : Prop :=
  (∀ (t u : Transform) (v : Word), (t.andThen u).apply v = u.apply (t.apply v))
    ∧ (∀ t u : Transform, t.andThen u = { keep := t.keep &&& u.keep, flip := (t.flip &&& u.keep) ^^^ u.flip })
    ∧ (∀ (e : Entry) (m : LaneMask) (u : Transform), (e.compose m u).xf = e.xf.andThen u)
    ∧ ∀ (w : WordAddr) (s : State), (composed w s).apply = fun v => (wordEntries w s).foldl (fun a e => e.xf.apply a) v

/-- R20: on an enabled, resolved, not keyed-out lane, with a and b the results of the window's code for (S, 0) and (S, 1),
the keep bit is a XOR b and the flip bit is a, and the pair applied to any destination bit gives the code's result. -/
def Obligations.RasterPairsCarryTheCode : Prop :=
  ∀ (s : State) (word : WordAddr) (lanes : LaneMask) (data : Word) (held : LaneMask) (i : LaneIx) (w : Window) (k : Nat),
    hasLane lanes i = true → resolve s (bytePosition word i) = some w → w.keyMatches lanes data i = false → k < 8 →
    let x := laneWork s word lanes data held i
    let src := (laneByte data i).getLsbD k
    let a := w.raster.getLsbD (if src then 1 else 0)
    let b := w.raster.getLsbD (if src then 3 else 2)
    x.keep.getLsbD k = (a ^^ b) ∧ x.flip.getLsbD k = a
      ∧ ∀ d : Bool, ((d && x.keep.getLsbD k) ^^ x.flip.getLsbD k) = if d then b else a

/-- Table 4-1 with R18: the class of a lane is the first whose condition it meets, and its transform is that of its window,
the plain one, or identity (R57, R18, R26). A lane is deferrable when it is enabled and held, or enabled and resolved to a
DEFER window (R70); a lane is held when some entry of its word has it in its lane set (R37). Lane i is bit i of a lane set
and bits 8 × i to 8 × i + 7 of a word, at byte position 4 × word + i; identity has keep bits 1 and flip bits 0 (section 4.1
and 4.4 of the scope). -/
def Obligations.LaneClassTable : Prop :=
  ((∀ (m : LaneMask) (i : LaneIx), hasLane m i = m.getLsbD i.val)
     ∧ (∀ (v : Word) (i : LaneIx) (k : Nat), k < 8 → (laneByte v i).getLsbD k = v.getLsbD (8 * i.val + k))
     ∧ (∀ (m : LaneMask) (i : LaneIx), laneByte (laneBits m) i = if hasLane m i then 0xFF else 0x00)
     ∧ (∀ (word : WordAddr) (i : LaneIx), bytePosition word i = 4 * word.toNat + i.val)
     ∧ Transform.identity = { keep := 0xFFFFFFFF, flip := 0 })
    ∧ (∀ (s : State) (word : WordAddr) (lanes : LaneMask) (data : Word) (held : LaneMask) (i : LaneIx),
    let x := laneWork s word lanes data held i
    (hasLane lanes i = false → x.cls = .idle ∧ x.keep = 0xFF ∧ x.flip = 0x00)
      ∧ (hasLane lanes i = true → resolve s (bytePosition word i) = none →
          x.cls = (if hasLane held i then .carried else .plain) ∧ x.keep = 0x00 ∧ x.flip = laneByte data i)
      ∧ ∀ w : Window, hasLane lanes i = true → resolve s (bytePosition word i) = some w →
          (w.keyMatches lanes data i = true → x.cls = .keyedOut ∧ x.keep = 0xFF ∧ x.flip = 0x00)
            ∧ (w.keyMatches lanes data i = false →
                x.cls = (if hasLane held i then .carried else if w.mode = .defer then .deferred else .direct)
                  ∧ x.keep = rasterKeep w.raster (laneByte data i) ∧ x.flip = rasterFlip w.raster (laneByte data i)))
    ∧ (∀ (s : State) (word : WordAddr) (lanes : LaneMask) (data : Word) (held : LaneMask) (i : LaneIx),
         (laneWork s word lanes data held i).deferrable = true ↔
           hasLane lanes i = true
             ∧ (hasLane held i = true ∨ ∃ w, resolve s (bytePosition word i) = some w ∧ w.mode = .defer))
    ∧ ∀ (s : State) (word : WordAddr) (i : LaneIx),
        hasLane (heldLanes word s) i = true ↔ ∃ e ∈ s.buf.entries, e.word = word ∧ hasLane e.lanes i = true

/-- Membership by origin, width, height and pitch (R3), of a byte and of a word; resolution to the lowest-numbered enabled
window that contains the byte (R13); the key compare of a lane's pixel in its window's format, every lane of the pixel
enabled, over the mask and the pixel width (R24, R25). -/
def Obligations.WindowMembershipResolutionAndKey : Prop :=
  (∀ (w : Window) (b : Nat),
     let o := 4 * w.originWord.toNat + w.originLane.toNat
     let line := 4 * w.pitch.toNat
     (1 < w.height.toNat →
         (w.contains b = true ↔
           o ≤ b ∧ (b - o) % line < w.width.toNat ∧ (b - o) / line < w.height.toNat))
       ∧ (w.height.toNat ≤ 1 → (w.contains b = true ↔ o ≤ b ∧ b < o + w.width.toNat)))
    ∧ (∀ (w : Window) (word : WordAddr), w.covers word = true ↔ ∃ i : LaneIx, w.contains (4 * word.toNat + i.val) = true)
    ∧ (∀ (s : State) (b : Nat),
         (∀ w, resolve s b = some w ↔
           ∃ i : Fin 16, windowAt i s = w ∧ w.enabled = true ∧ w.contains b = true
             ∧ ∀ j : Fin 16, j < i → ¬((windowAt j s).enabled = true ∧ (windowAt j s).contains b = true))
           ∧ (resolve s b = none ↔ ∀ j : Fin 16, ¬((windowAt j s).enabled = true ∧ (windowAt j s).contains b = true)))
    ∧ ∀ (w : Window) (lanes : LaneMask) (data : Word) (i : LaneIx),
        (w.format = .p8 →
            (w.keyMatches lanes data i = true ↔ w.keyEnable = true ∧ hasLane lanes i = true
              ∧ laneByte data i &&& w.keyMask.extractLsb' 0 8 = w.keyValue.extractLsb' 0 8 &&& w.keyMask.extractLsb' 0 8))
          ∧ (w.format = .p16 →
              let low : LaneIx := if i.val < 2 then 0 else 2
              let high : LaneIx := if i.val < 2 then 1 else 3
              let pixel : Half := laneByte data high ++ laneByte data low
              (w.keyMatches lanes data i = true ↔
                w.keyEnable = true ∧ hasLane lanes low = true ∧ hasLane lanes high = true
                  ∧ pixel &&& w.keyMask.extractLsb' 0 16
                    = w.keyValue.extractLsb' 0 16 &&& w.keyMask.extractLsb' 0 16))
          ∧ (w.format = .p32 →
              (w.keyMatches lanes data i = true ↔
                w.keyEnable = true ∧ lanes = 0xF#4 ∧ data &&& w.keyMask = w.keyValue &&& w.keyMask))

/-! ### The setup port: bytes and transactions -/

/-- Every setup command is read back from its bytes, with every parameter at every value. Its bytes are its code of Table
11-4 and its parameters in the order of Table 11-8, fields wider than a byte most significant byte first (R181); the
assigned codes are those that begin a command (Table 11-4, R162). -/
def Obligations.SetupBytesRoundTrip : Prop :=
  (∀ c : SetupCommand, parseCommand c.bytes = some c)
    ∧ ((∀ v, bytes16 v = [v.extractLsb' 8 8, v.extractLsb' 0 8])
      ∧ (∀ v, bytes24 v = [v.extractLsb' 16 8, v.extractLsb' 8 8, v.extractLsb' 0 8])
      ∧ ∀ v, bytes32 v = [v.extractLsb' 24 8, v.extractLsb' 16 8, v.extractLsb' 8 8, v.extractLsb' 0 8])
    ∧ (SetupCommand.ident.bytes = [0x01] ∧ SetupCommand.status.bytes = [0x02] ∧ SetupCommand.events.bytes = [0x03]
      ∧ SetupCommand.engage.bytes = [0x30] ∧ SetupCommand.disengage.bytes = [0x31]
      ∧ SetupCommand.discard.bytes = [0x32] ∧ SetupCommand.flush.bytes = [0x33] ∧ SetupCommand.errinfo.bytes = [0x41]
      ∧ SetupCommand.softReset.bytes = [0x7F])
    ∧ (∀ v : Byte,
        (SetupCommand.clear v).bytes = [0x04, v] ∧ (SetupCommand.mask v).bytes = [0x05, v]
          ∧ (SetupCommand.winRead v).bytes = [0x11, v] ∧ (SetupCommand.winEnable v).bytes = [0x12, v]
          ∧ (SetupCommand.winDisable v).bytes = [0x13, v] ∧ (SetupCommand.sync v).bytes = [0x22, v]
          ∧ (SetupCommand.arbitration v).bytes = [0x24, v] ∧ (SetupCommand.tick v).bytes = [0x25, v]
          ∧ (SetupCommand.counters v).bytes = [0x40, v])
    ∧ (∀ (limit : Half) (c r k base : WordAddr) (z : Byte),
        (SetupCommand.stall limit).bytes = 0x23 :: bytes16 limit
          ∧ (SetupCommand.marks c r k).bytes = 0x20 :: (bytes24 c ++ bytes24 r ++ bytes24 k)
          ∧ (SetupCommand.ring base z).bytes = 0x21 :: (bytes24 base ++ [z]))
    ∧ (∀ p : WinParams,
        (SetupCommand.winWrite p).bytes =
          [0x10, p.index] ++ bytes24 p.originWord ++ [p.originLane] ++ bytes16 p.width ++ bytes16 p.height
            ++ bytes16 p.pitch ++ [p.format, p.mode, p.raster, p.keyEnable] ++ bytes32 p.keyValue ++ bytes32 p.keyMask)
    ∧ ∀ b : Byte, assignedCode b = true ↔ ∃ c : SetupCommand, c.bytes.head? = some b

/-- Each byte of a command shifted in is added to the command in assembly, and the last one executes it (R160, R161).
A first byte that names no command executes with result UNKNOWN, no response data and no effect (R162). After a command has
executed, each byte shifted shifts out the next byte of result and response, and 0xFF after the last; the byte in is not
taken as a command (R160, R161). -/
def Obligations.SetupBytesShiftedIn : Prop :=
  (∀ (c : SetupCommand) (k : Nat) (b : Byte) (s : State),
     s.resetn = true → c.bytes[k]? = some b → s.setup.phase = .assembling (c.bytes.take k) →
     exec (.setupByteShifted b) s =
       .next (if k + 1 = c.bytes.length then execute (runCommand c) s
         else { s with setup.phase := .assembling (c.bytes.take (k + 1)), setup.sdo := some 0xFF }))
    ∧ (∀ (b : Byte) (s : State),
         s.resetn = true → assignedCode b = false → s.setup.phase = .assembling [] →
         exec (.setupByteShifted b) s = .next (executed 0x04 [] s))
    ∧ (∀ (b : Byte) (out : List Byte) (r : Bool) (s : State),
         s.resetn = true → s.setup.phase = .executed out r →
         exec (.setupByteShifted b) s =
           .next { s with setup.phase := .executed out.tail true, setup.sdo := some (out.headD 0xFF) })

/-- Each of the 23 setup-command rows completes whenever the port can take the rest of its bytes: it executes its
command in one step (R161); that the row stands for just those of its bytes that are not yet in assembly is the model's
choice (log entry 5). A byte that names no command executes with result UNKNOWN and no effect (R162). -/
def Obligations.CommandRowsExecute : Prop :=
  (∀ (i : Instr) (c : SetupCommand) (s : State),
     i.setupCommand = some c → portReady c.bytes s → exec i s = .next (execute (runCommand c) s))
    ∧ (∀ (code : Byte) (s : State), assignedCode code = false → portReady [code] s →
         exec (.unknownCommand code) s = .next (executed 0x04 [] s))

/-- While RESETn is low, while CSn is high, and after a pin reset with CSn low until CSn has risen and fallen again, a
setup-command row and a byte change nothing (R160, R164; for the rows, log entry 5); that SDO stays undriven in the last
case, RESETn having risen, is the model's choice (log entry 29); after a command has executed, a row's bytes only shift
out more of its response (R160). The rows for which there is nothing to do, or a busy port, change nothing (the model's
choice, log entries 8 and 9). The model's stops, each on a row that the hardware cannot produce (the model's choice, log
entries 6 and 7): a setup row that contradicts the bytes in assembly, UNKNOWN_COMMAND with a byte that names a command,
and a memory response with no request of its kind in flight (R150, R181). -/
def Obligations.RowsWithoutEffectAndStops : Prop :=
  (∀ (i : Instr) (c : SetupCommand) (b : Byte) (s : State), i.setupCommand = some c →
     (s.resetn = false ∨ s.setup.phase = .noTransaction ∨ s.setup.phase = .blocked →
       exec i s = .next s ∧ exec (.setupByteShifted b) s = .next s)
       ∧ ∀ out r, s.resetn = true → s.setup.phase = .executed out r →
           exec i s =
             .next { s with setup.phase := .executed (out.drop c.bytes.length) true,
                            setup.sdo := some ((out.drop (c.bytes.length - 1)).headD 0xFF) })
    ∧ (∀ (word : WordAddr) (lanes : LaneMask) (data : Word) (s : State),
        (s.resetn = false → exec .pinReset s = .next s) ∧ (s.resetn = true → exec .resetnRise s = .next s)
          ∧ (s.setup.phase ≠ .noTransaction → exec .transactionStart s = .next s)
          ∧ (s.setup.phase = .noTransaction → exec .transactionEnd s = .next s)
          ∧ (¬(s.stall.active = true ∧ s.stall.expired = false ∧ s.stall.limit.toNat ≤ s.stall.elapsed.toNat) →
              exec .stallExpiry s = .next s)
          ∧ (s.cfg.source = .immediate → exec .blankStart s = .next s ∧ exec .blankEnd s = .next s)
          ∧ (s.sys ≠ .idle →
              exec (.systemRead word lanes) s = .next s ∧ exec (.systemWrite word lanes data) s = .next s)
          ∧ (s.refresh ≠ .idle →
              exec (.refreshRead word lanes) s = .next s ∧ exec (.refreshWrite word lanes) s = .next s))
    ∧ (∀ (i : Instr) (c : SetupCommand) (got : List Byte) (s : State),
     i.setupCommand = some c → s.resetn = true → s.setup.phase = .assembling got →
     ¬(got.length < c.bytes.length ∧ got = c.bytes.take got.length) → exec i s = .fault .notTheCommandInAssembly)
    ∧ (∀ (code : Byte) (s : State), assignedCode code = true →
        exec (.unknownCommand code) s = .fault .notTheCommandInAssembly)
    ∧ ∀ (k : ReqKind) (r : ReadReply) (w : WriteReply) (s : State),
        (∀ f, s.inFlight = some f → f.req.kind ≠ k) →
        match k with
        | .systemRead => exec (.systemReadResponse r) s = .fault .noSuchRequestInFlight
        | .destinationRead => exec (.destinationReadResponse r) s = .fault .noSuchRequestInFlight
        | .immediateWrite => exec (.immediateWriteResponse w) s = .fault .noSuchRequestInFlight
        | .drainRead => exec (.drainReadResponse r) s = .fault .noSuchRequestInFlight
        | .drainWrite => exec (.drainWriteResponse w) s = .fault .noSuchRequestInFlight
        | .recordWrite => exec (.recordWriteResponse w) s = .fault .noSuchRequestInFlight
        | .refreshRead => exec (.refreshReadResponse r) s = .fault .noSuchRequestInFlight

/-- CSn falls: a transaction begins with nothing in assembly (R160); while RESETn is low nothing is taken until CSn has
risen and fallen again (R164; SDO until then: log entry 29). CSn rises: an incomplete command is discarded
without effect, an executed one stands, and a pending soft reset whose result byte has not been shifted out whole is
cancelled (R162, R177). -/
def Obligations.TransactionStartAndEnd : Prop :=
  (∀ s : State, s.setup.phase = .noTransaction →
     exec .transactionStart s =
       .next { s with setup.phase := if s.resetn = true then .assembling [] else .blocked, setup.sdo := none })
    ∧ (∀ s : State, s.setup.phase ≠ .noTransaction →
         (∀ out, s.setup.phase = .executed out true → s.setup.softResetPending = false) →
         exec .transactionEnd s =
           .next { s with setup := { phase := .noTransaction, sdo := none, softResetPending := false } })

/-- A pending soft reset takes effect at the CSn rise after its result byte: the configuration is kept and the runtime
state cleared (R177, Table 10-5; the sequence of a FREE slot, the cause and limit of the inactive stall and the ticks of
the idle engine are the model's choice, log entry 3); the requests of the two ports and the memory port go on (R147, R148,
R150). A write in progress at a reset is completed as a plain write of all its enabled lanes, each plain with the written
byte (R69), its request standing at the arbiter or, in a destination read, as it was, unless its memory write has been
granted (R72, R147); a read in progress stands (R49, R147). A consumer store completed so is snooped again, against P = C
= 0 and an idle writer: C takes its count when (0 − count) is at most the ring size, and RING_ERR stands otherwise (R72,
R143, R141); that this snoop falls within the reset's step is log entry 21's deduction, and that a store still in progress
since a pin reset is snooped so too is the model's choice (log entry 28). -/
def Obligations.SoftResetAndItsWrites : Prop :=
  (∀ (out : List Byte) (s : State),
     s.setup.phase = .executed out true → s.setup.softResetPending = true →
     let cleared : State := { s with
         part := .pass
         setup := { phase := .noTransaction, sdo := none, softResetPending := false }
         ev := { flags := 0, counters := Counters.zero, errinfo := none }
         buf := { entries := [], highWater := 0 }
         batch := BatchQueue.reset
         sync := { clkCycles := 0, blanking := blankingFromPin s.cfg.source s.blank, frameCounter := 0 }
         drain := DrainEngine.reset
         stall := Stall.reset
         recs := RecordUnit.reset
         sys := s.sys.afterReset
         waits := Waits.zero
         inFlight := s.inFlight.map fun f => { f with cutOff := true } }
     ((∀ w, s.sys = .write w → w.mark = some .consumer → w.phase = .writeInFlight) →
         exec .transactionEnd s = .next cleared)
       ∧ ∀ w, s.sys = .write w → w.mark = some .consumer → w.phase ≠ .writeInFlight →
           let count : Half := w.data.extractLsb' 0 16
           ((0#16 - count).toNat ≤ s.cfg.ringSize →
               exec .transactionEnd s = .next { cleared with recs.cons := count })
             ∧ (s.cfg.ringSize < (0#16 - count).toNat →
               exec .transactionEnd s = .next { cleared with ev.flags := 0x40 }))
    ∧ (∀ w : WriteJob,
         (w.phase = .writeInFlight → w.afterReset = w)
           ∧ (w.phase ≠ .writeInFlight →
               w.afterReset.plain = true ∧ w.afterReset.immediateLanes = w.lanes ∧ w.afterReset.lanesToHold = 0#4
                 ∧ w.afterReset.memoryData = w.data &&& laneBits w.lanes ∧ w.afterReset.reserved = false
                 ∧ (w.phase ≠ .destRequested → w.phase ≠ .destInFlight → w.afterReset.phase = .writeRequested)
                 ∧ w.afterReset =
                   { w with classes := plainClasses w.lanes, xf := plainTransform w.lanes w.data, reserved := false,
                            readData := none, plain := true, leftEngaged := false, phase := w.afterReset.phase }
                 ∧ (w.phase = .destRequested ∨ w.phase = .destInFlight → w.afterReset.phase = w.phase)))
    ∧ (∀ (lanes : LaneMask) (data : Word) (i : LaneIx),
         (plainClasses lanes).get i = (if hasLane lanes i then .plain else .idle)
           ∧ laneByte (plainTransform lanes data).keep i = (if hasLane lanes i then 0x00 else 0xFF)
           ∧ laneByte (plainTransform lanes data).flip i = if hasLane lanes i then laneByte data i else 0x00)
    ∧ SysPort.idle.afterReset = .idle ∧ (∀ r, (SysPort.read r).afterReset = .read r)
    ∧ ∀ w, (SysPort.write w).afterReset = .write w.afterReset

/-! ### Setup commands that answer or set one thing -/

/-- R165: IDENT returns OK with 0x4128 and 0x02 in every state and changes nothing; while RESETn is low no byte is taken. -/
def Obligations.IdentAnswers : Prop :=
  (∀ s : State, portReady [0x01] s → exec .ident s = .next (executed 0x00 [0x41, 0x28, 0x02] s))
    ∧ ∀ s : State, s.resetn = false → exec .ident s = .next s

/-- STATUS returns OK with 40 bytes taken at the instant of execution, in the order of Table 11-9, and changes nothing:
the part state; for each slot its state, sequence, tag and close frame number, 0 for a FREE slot; the OPEN batch; the
occupancy, the record queue, P, C, the stall, the engine, BLANK and the frame counter (R166, R95, R182). EVENTS returns
the flags and the mask; CLEAR clears the flags whose bit is 1; MASK replaces the mask whole; IRQn is low exactly while a
flag is set whose mask bit is 1 (R173, R174). -/
def Obligations.StatusAndEventRegisters : Prop :=
  (∀ s : State, portReady [0x02] s →
     let stateCode (v : SlotState) : Byte :=
       match v with | .free => 0x00 | .opened => 0x01 | .closed => 0x02 | .held => 0x03 | .draining => 0x04
     let slotBytes (b : Slot) : List Byte :=
       if b.state = .free then [0x00, 0x00, 0x00, 0x00, 0x00, 0x00]
       else [stateCode b.state] ++ bytes16 b.sequence ++ [b.tag] ++ bytes16 b.closeFrame
     let partCode : Byte := match s.part with | .pass => 0x00 | .engaged => 0x01 | .quiescing => 0x02
     let openBytes : List Byte :=
       match openSlot s with | some i => [0x01] ++ bytes16 (slotOf i s).sequence | none => [0x00, 0x00, 0x00]
     let stallCode : Byte :=
       if s.stall.active then (match s.stall.cause with | .place => 0x01 | .slot => 0x02 | .pass => 0x03) else 0x00
     let data : List Byte :=
       [partCode] ++ slotBytes (slotOf 0 s) ++ slotBytes (slotOf 1 s) ++ slotBytes (slotOf 2 s) ++ slotBytes (slotOf 3 s)
         ++ openBytes ++ bytes16 (BitVec.ofNat 16 s.buf.entries.length) ++ [BitVec.ofNat 8 s.recs.records.length]
         ++ bytes16 s.recs.prod ++ bytes16 s.recs.cons
         ++ [stallCode, if s.drain.current.isSome then 0x01 else 0x00, if s.blank then 0x01 else 0x00]
         ++ bytes16 s.sync.frameCounter
     exec .status s = .next (executed 0x00 data s) ∧ data.length = 40)
    ∧ (∀ (v : Byte) (s : State),
         (portReady [0x03] s → exec .events s = .next (executed 0x00 [s.ev.flags, s.cfg.mask] s))
           ∧ (portReady [0x04, v] s →
               exec (.clear v) s = .next (executed 0x00 [] { s with ev.flags := s.ev.flags &&& ~~~v }))
           ∧ (portReady [0x05, v] s → exec (.mask v) s = .next (executed 0x00 [] { s with cfg.mask := v }))
           ∧ (s.resetn = true → (irqLow s = true ↔ ∃ k, k < 8 ∧ s.ev.flags.getLsbD k = true ∧ s.cfg.mask.getLsbD k = true)))

/-- COUNTERS with option 0x00 returns the nine counters as they stand, two bytes each in the order of Table 11-9; with
option 0x01 it returns them and clears the eight event counters and sets the high-water mark to the occupancy; any other
option is refused with RANGE (R176). ERRINFO returns the recorded error, or zeros, and leaves ERRINFO empty; MEMERR is not
changed (R167, R158). The requester of an error is that of its request, by the codes of Table 11-10, and its direction is
write for the three kinds of memory write and read for the four of memory read (R158, R182). -/
def Obligations.CountersAndErrinfoAnswer : Prop :=
  (∀ (option : Byte) (s : State),
     let two (n : Nat) : List Byte := bytes16 (BitVec.ofNat 16 n)
     let c := s.ev.counters
     let nine : List Byte :=
       two c.frames ++ two c.batchesDrained ++ two c.tornBatches ++ two c.forcedBatches ++ two c.stalls
         ++ two c.stallExpiries ++ two c.recordsLost ++ two c.memoryErrors ++ two s.buf.highWater
     (portReady [0x40, 0x00] s → exec (.counters 0x00) s = .next (executed 0x00 nine s))
       ∧ (portReady [0x40, 0x01] s →
           exec .countersClear s =
             .next (executed 0x00 nine
               { s with ev.counters := Counters.zero, buf.highWater := s.buf.entries.length }))
       ∧ (option ≠ 0x00#8 → option ≠ 0x01#8 → portReady [0x40, option] s →
           exec (.counters option) s = .next (executed 0x02 [] s)))
    ∧ (∀ s : State, portReady [0x41] s →
         (s.ev.errinfo = none → exec .errinfo s = .next (executed 0x00 [0, 0, 0, 0, 0, 0] s))
           ∧ ∀ e : ErrInfo, s.ev.errinfo = some e →
               exec .errinfo s =
                 .next (executed 0x00 ([0x01] ++ bytes24 e.word ++ [e.requester.byte, if e.isWrite then 0x01 else 0x00])
                   { s with ev.errinfo := none }))
    ∧ (Requester.system.byte = 0x00 ∧ Requester.drain.byte = 0x01 ∧ Requester.record.byte = 0x02
      ∧ Requester.refresh.byte = 0x03)
    ∧ (ReqKind.systemRead.requester = .system ∧ ReqKind.destinationRead.requester = .system
      ∧ ReqKind.immediateWrite.requester = .system ∧ ReqKind.drainRead.requester = .drain
      ∧ ReqKind.drainWrite.requester = .drain ∧ ReqKind.recordWrite.requester = .record
      ∧ ReqKind.refreshRead.requester = .refresh)
    ∧ ReqKind.systemRead.isWrite = false ∧ ReqKind.destinationRead.isWrite = false
    ∧ ReqKind.immediateWrite.isWrite = true ∧ ReqKind.drainRead.isWrite = false ∧ ReqKind.drainWrite.isWrite = true
    ∧ ReqKind.recordWrite.isWrite = true ∧ ReqKind.refreshRead.isWrite = false

/-- STALL takes every value in every state; ARBITRATION takes 1 to 64 and refuses any other with RANGE; SOFT_RESET
answers OK and makes a soft reset pending; a stall already active keeps its limit (R120, R155, R177). SYNC: STATE
outside PASS, RANGE for a byte that names no source, and otherwise the source is set and the blanking state taken from
BLANK without an event (R98, R99). TICK: STATE outside PASS, RANGE for 0, and otherwise the setting is stored and the
cycle count restarts (R97). -/
def Obligations.SettingsCommands : Prop :=
  (∀ (limit : Half) (v : Byte) (s : State),
     (portReady (0x23 :: bytes16 limit) s →
         exec (.stall limit) s = .next (executed 0x00 [] { s with cfg.stall := limit }))
       ∧ (portReady [0x24, v] s →
           exec (.arbitration v) s =
             .next (if 1 ≤ v.toNat ∧ v.toNat ≤ 64 then executed 0x00 [] { s with cfg.share := v }
               else executed 0x02 [] s))
       ∧ (portReady [0x7F] s → exec .softReset s = .next (executed 0x00 [] { s with setup.softResetPending := true })))
    ∧ (∀ (v : Byte) (s : State),
         (portReady [0x22, v] s →
           (s.part ≠ .pass → exec (.sync v) s = .next (executed 0x03 [] s))
             ∧ (s.part = .pass → 2 < v.toNat → exec (.sync v) s = .next (executed 0x02 [] s))
             ∧ (s.part = .pass → v = 0x00#8 → exec (.sync v) s =
                 .next (executed 0x00 [] { s with cfg.source := .blankHigh, sync.blanking := some s.blank }))
             ∧ (s.part = .pass → v = 0x01#8 → exec (.sync v) s =
                 .next (executed 0x00 [] { s with cfg.source := .blankLow, sync.blanking := some (!s.blank) }))
             ∧ (s.part = .pass → v = 0x02#8 → exec (.sync v) s =
                 .next (executed 0x00 [] { s with cfg.source := .immediate, sync.blanking := none })))
           ∧ (portReady [0x25, v] s →
               (s.part ≠ .pass → exec (.tick v) s = .next (executed 0x03 [] s))
                 ∧ (s.part = .pass → v = 0#8 → exec (.tick v) s = .next (executed 0x02 [] s))
                 ∧ (s.part = .pass → v ≠ 0#8 →
                     exec (.tick v) s = .next (executed 0x00 [] { s with cfg.tick := v, sync.clkCycles := 0 }))))

/-! ### Windows -/

/-- WIN_WRITE checks the index, then whether the window is enabled, then the fields as R6 lists them, and stores the
eleven fields, the window standing disabled, or changes nothing (R5, R6). WIN_READ returns the twelve fields in the order
of Table 11-9 and changes nothing, the format and the mode by their codes of Table 11-6; an index above 15 is refused with
RANGE (R7, R182). A stored window is legal when its fields pass the checks of R6. -/
def Obligations.WinWriteAndWinRead : Prop :=
  (∀ (p : WinParams) (s : State), portReady (SetupCommand.winWrite p).bytes s →
     let size := p.format.toNat
     let passes : Prop :=
       (size = 1 ∨ size = 2 ∨ size = 4) ∧ p.originLane.toNat ≤ 3 ∧ p.originLane.toNat % size = 0
         ∧ 1 ≤ p.width.toNat ∧ p.width.toNat ≤ 8192 ∧ p.width.toNat % size = 0
         ∧ 1 ≤ p.height.toNat ∧ p.height.toNat ≤ 4096 ∧ 1 ≤ p.pitch.toNat
         ∧ (1 < p.height.toNat → p.width.toNat ≤ 4 * p.pitch.toNat)
         ∧ 4 * p.originWord.toNat + p.originLane.toNat + (p.height.toNat - 1) * 4 * p.pitch.toNat + p.width.toNat - 1 < 67108864
         ∧ p.mode.toNat ≤ 1 ∧ p.raster.toNat ≤ 15 ∧ p.keyEnable.toNat ≤ 1
     let stored : Window :=
       { enabled := false, originWord := p.originWord, originLane := p.originLane.setWidth 2, width := p.width,
         height := p.height, pitch := p.pitch, format := if size = 1 then .p8 else if size = 2 then .p16 else .p32,
         mode := if p.mode = 0x00#8 then .direct else .defer, raster := p.raster.setWidth 4,
         keyEnable := p.keyEnable == 0x01#8, keyValue := p.keyValue, keyMask := p.keyMask }
     (16 ≤ p.index.toNat → exec (.winWrite p) s = .next (executed 0x02 [] s))
       ∧ ∀ i : Fin 16, p.index.toNat = i.val →
           ((windowAt i s).enabled = true → exec (.winWrite p) s = .next (executed 0x01 [] s))
             ∧ ((windowAt i s).enabled = false → ¬passes → exec (.winWrite p) s = .next (executed 0x02 [] s))
             ∧ ((windowAt i s).enabled = false → passes →
                 exec (.winWrite p) s = .next (executed 0x00 [] { s with cfg.windows := s.cfg.windows.set i stored })))
    ∧ (∀ (v : Byte) (s : State), portReady [0x11, v] s →
         (16 ≤ v.toNat → exec (.winRead v) s = .next (executed 0x02 [] s))
           ∧ ∀ i : Fin 16, v.toNat = i.val →
               let w := windowAt i s
               exec (.winRead v) s =
                 .next (executed 0x00
                   ([if w.enabled then 0x01 else 0x00] ++ bytes24 w.originWord ++ [w.originLane.setWidth 8]
                     ++ bytes16 w.width ++ bytes16 w.height ++ bytes16 w.pitch
                     ++ [w.format.byte, w.mode.byte, w.raster.setWidth 8, if w.keyEnable then 0x01 else 0x00]
                     ++ bytes32 w.keyValue ++ bytes32 w.keyMask) s))
    ∧ (Format.p8.byte = 0x01 ∧ Format.p16.byte = 0x02 ∧ Format.p32.byte = 0x04 ∧ WinMode.direct.byte = 0x00
      ∧ WinMode.defer.byte = 0x01)
    ∧ (∀ (i : Fin 16) (s : State), windowAt i s = s.cfg.windows[i])
    ∧ ∀ w : Window,
        let size := match w.format with | .p8 => 1 | .p16 => 2 | .p32 => 4
        w.legal = true ↔
          w.originLane.toNat % size = 0 ∧ 1 ≤ w.width.toNat ∧ w.width.toNat ≤ 8192 ∧ w.width.toNat % size = 0
            ∧ 1 ≤ w.height.toNat ∧ w.height.toNat ≤ 4096 ∧ 1 ≤ w.pitch.toNat
            ∧ (1 < w.height.toNat → w.width.toNat ≤ 4 * w.pitch.toNat)
            ∧ 4 * w.originWord.toNat + w.originLane.toNat + (w.height.toNat - 1) * 4 * w.pitch.toNat + w.width.toNat - 1
              < 67108864

/-- WIN_ENABLE: RANGE above 15; OK and no change when already enabled; CONFLICT when the window covers a protected word; and
otherwise the window becomes enabled (R8, R9). The protected words are the three watched words when they are configured,
and the words of the configured ring, from its base to base + 4 × size − 1 in a ring inside frame memory (R9, R133, R134);
a word is covered when some enabled window has one of its lanes (R9, R84). -/
def Obligations.WinEnableChecks : Prop :=
  (∀ (v : Byte) (s : State), portReady [0x12, v] s →
    (16 ≤ v.toNat → exec (.winEnable v) s = .next (executed 0x02 [] s))
      ∧ ∀ i : Fin 16, v.toNat = i.val →
          let w := windowAt i s
          (w.enabled = true → exec (.winEnable v) s = .next (executed 0x00 [] s))
            ∧ (w.enabled = false → (∃ a ∈ protectedWords s.cfg, w.covers a = true) →
                exec (.winEnable v) s = .next (executed 0x05 [] s))
            ∧ (w.enabled = false → (∀ a ∈ protectedWords s.cfg, w.covers a = false) →
                exec (.winEnable v) s =
                  .next (executed 0x00 [] { s with cfg.windows := s.cfg.windows.set i { w with enabled := true } })))
    ∧ (∀ (c : Settings) (a : WordAddr),
         a ∈ protectedWords c ↔
           (∃ m, c.marks = some m ∧ (a = m.close ∨ a = m.release ∨ a = m.consumer)) ∨ a ∈ ringWords c.ringBase c.ringSize)
    ∧ (∀ (base a : WordAddr) (size : Nat), base.toNat + 4 * size ≤ 16777216 →
         (a ∈ ringWords base size ↔ base.toNat ≤ a.toNat ∧ a.toNat < base.toNat + 4 * size))
    ∧ ∀ (a : WordAddr) (s : State),
        windowCovers s.cfg a = true ↔ ∃ i : Fin 16, (windowAt i s).enabled = true ∧ (windowAt i s).covers a = true

/-- R10: WIN_DISABLE refuses an index above 15 with RANGE and otherwise disables the window in every part state, keeping its
other fields, which WIN_READ still returns; resolution finds enabled windows alone. -/
def Obligations.WinDisableRemoves : Prop :=
  (∀ (v : Byte) (s : State), portReady [0x13, v] s →
    (16 ≤ v.toNat → exec (.winDisable v) s = .next (executed 0x02 [] s))
      ∧ ∀ i : Fin 16, v.toNat = i.val →
          exec (.winDisable v) s =
            .next (executed 0x00 [] { s with cfg.windows := s.cfg.windows.set i { windowAt i s with enabled := false } }))
    ∧ (∀ (v : Byte) (i : Fin 16) (s : State), v.toNat = i.val → portReady [0x11, v] s →
        exec (.winRead v) s = .next (executed 0x00 (windowData (windowAt i s)) s))
    ∧ ∀ (s : State) (b : Nat) (w : Window), resolve s b = some w → w.enabled = true ∧ w.contains b = true

/-! ### Watched words, ring, time base, blanking source -/

/-- MARKS: STATE outside PASS; CONFLICT for two equal addresses, for an address in the ring, and for an address an enabled
window covers; and otherwise the three addresses are stored (R84). -/
def Obligations.MarksChecks : Prop :=
  ∀ (c r k : WordAddr) (s : State), portReady (0x20 :: (bytes24 c ++ bytes24 r ++ bytes24 k)) s →
    let ring (a : WordAddr) : Prop :=
      s.cfg.ringBase.toNat ≤ a.toNat ∧ a.toNat < s.cfg.ringBase.toNat + 4 * s.cfg.ringSize
    let clash := c = r ∨ c = k ∨ r = k ∨ ring c ∨ ring r ∨ ring k ∨ windowCovers s.cfg c = true
      ∨ windowCovers s.cfg r = true ∨ windowCovers s.cfg k = true
    (s.part ≠ .pass → exec (.marks c r k) s = .next (executed 0x03 [] s))
      ∧ (s.part = .pass → clash → exec (.marks c r k) s = .next (executed 0x05 [] s))
      ∧ (s.part = .pass → ¬clash →
          exec (.marks c r k) s =
            .next (executed 0x00 [] { s with cfg.marks := some { close := c, release := r, consumer := k } }))

/-- RING: STATE outside PASS; BUSY while a record is queued or being written; RANGE for a code that names no size or a bad
placement; CONFLICT for a ring over a watched word or under an enabled window; and otherwise the ring is placed and P, C and
the lost count become 0 (R133). -/
def Obligations.RingChecks : Prop :=
  ∀ (base : WordAddr) (z : Byte) (s : State), portReady (0x21 :: (bytes24 base ++ [z])) s →
    (s.part ≠ .pass → exec (.ring base z) s = .next (executed 0x03 [] s))
      ∧ (s.part = .pass → (s.recs.records ≠ [] ∨ s.recs.writer ≠ .idle) →
          exec (.ring base z) s = .next (executed 0x01 [] s))
      ∧ (s.part = .pass → s.recs.records = [] → s.recs.writer = .idle →
          (z.toNat = 1 ∨ 8 < z.toNat → exec (.ring base z) s = .next (executed 0x02 [] s))
            ∧ (z.toNat = 0 →
                exec (.ring base z) s =
                  .next (executed 0x00 []
                    { s with cfg.ringBase := base, cfg.ringSize := 0, recs.prod := 0, recs.cons := 0, recs.lost := 0 }))
            ∧ (2 ≤ z.toNat → z.toNat ≤ 8 →
                let size := 2 ^ z.toNat
                let legal := base.toNat % 4 = 0 ∧ base.toNat + 4 * size - 1 ≤ 16777215
                let clash := (∃ m, s.cfg.marks = some m ∧ ∃ a ∈ [m.close, m.release, m.consumer],
                    base.toNat ≤ a.toNat ∧ a.toNat < base.toNat + 4 * size)
                  ∨ ∃ a ∈ ringWords base size, windowCovers s.cfg a = true
                (¬legal → exec (.ring base z) s = .next (executed 0x02 [] s))
                  ∧ (legal → clash → exec (.ring base z) s = .next (executed 0x05 [] s))
                  ∧ (legal → ¬clash →
                      exec (.ring base z) s =
                        .next (executed 0x00 []
                          { s with cfg.ringBase := base, cfg.ringSize := size, recs.prod := 0, recs.cons := 0,
                                   recs.lost := 0 }))))

/-! ### Part state and batches -/

/-- ENGAGE: STATE outside PASS, without a ring, or without watched words; and otherwise a batch opens in slot 0 with the
sequence counter's value and the part becomes ENGAGED (R169, R82, R81, R78). -/
def Obligations.EngageOpensSlotZero : Prop :=
  ∀ s : State, portReady [0x30] s →
    (s.part ≠ .pass ∨ s.cfg.ringSize = 0 ∨ s.cfg.marks = none → exec .engage s = .next (executed 0x03 [] s))
      ∧ (s.part = .pass → s.cfg.ringSize ≠ 0 → s.cfg.marks ≠ none →
          exec .engage s =
            .next (executed 0x00 []
              { s with part := .engaged, batch.slots := s.batch.slots.set 0 (freshSlot s.batch.seqCounter),
                       batch.seqCounter := s.batch.seqCounter + 1 }))

/-- DISENGAGE: STATE outside ENGAGED; otherwise the open batch becomes CLOSED with tag 0 and COMMAND_CLOSED, every HELD
batch becomes CLOSED, the pending close is cleared, an owed force-close lapses, the part becomes QUIESCING and the drain
engine tests R103 (R170, R82). A write stalled for a place keeps its stall, now with cause (c), and one that has already
expired extends the horizon to every non-OPEN batch; one stalled for a FREE slot ends its stall and goes on as a plain
write of the close word; one in its destination read will have its commit refused; any other request goes on as it stands
(R71, R122). -/
def Obligations.DisengageClosesAndKeepsStalls : Prop :=
  ∀ s : State, portReady [0x31] s →
    (s.part ≠ .engaged → exec .disengage s = .next (executed 0x03 [] s))
      ∧ ∀ i : SlotIx, s.part = .engaged → openSlot s = some i →
          let closed : Slot :=
            { slotOf i s with state := .closed, tag := 0, commandClosed := true, closeFrame := s.sync.frameCounter }
          let released (b : Slot) : Slot := if b.state = .held then { b with state := .closed } else b
          let base : State :=
            { s with part := .quiescing, batch.pendingClose := false, stall.forceCloseOwed := false,
                     batch.slots := (s.batch.slots.set i closed).map released }
          let leads (u : State) : Prop := exec .disengage s = .next (executed 0x00 [] (engineTest u))
          ((∀ w, s.sys = .write w → w.phase = .waitPass ∨ w.phase = .writeRequested ∨ w.phase = .writeInFlight) → leads base)
            ∧ ∀ w, s.sys = .write w →
                (w.phase = .destRequested ∨ w.phase = .destInFlight →
                    leads { base with sys := .write { w with leftEngaged := true } })
                  ∧ (w.phase = .waitSlot → w.immediateLanes ≠ 0#4 →
                      leads { base with sys := .write { w with phase := .writeRequested }, stall.active := false })
                  ∧ (w.phase = .waitPlace ∨ w.phase = .waitCommitPlace →
                      let kept : WriteJob :=
                        if w.phase = .waitPlace then { w with phase := .waitPass }
                        else { w with phase := .waitPass, readData := none }
                      let waiting : State := { base with sys := .write kept, stall.cause := .pass }
                      (s.stall.expired = false → leads waiting)
                        ∧ (s.stall.expired = true → leads (extendHorizonTo (youngestNonOpen base) waiting)))

/-- DISCARD: STATE outside ENGAGED; otherwise every entry of the open batch leaves the buffer and the batch stays OPEN; when
that frees places, a write that waits for one takes one, and nothing else changes (R93, R53, R40). -/
def Obligations.DiscardEmptiesOpenBatch : Prop :=
  ∀ s : State, portReady [0x32] s →
    (s.part ≠ .engaged → exec .discard s = .next (executed 0x03 [] s))
      ∧ ∀ i : SlotIx, s.part = .engaged → openSlot s = some i →
          let u : State := { s with buf.entries := s.buf.entries.filter fun e => !(e.slot == i) }
          (waitsForNoPlace s → exec .discard s = .next (executed 0x00 [] u))
            ∧ ((∃ e ∈ s.buf.entries, e.slot = i) → exec .discard s = .next (executed 0x00 [] (placeFreed u)))
            ∧ ((∀ e ∈ s.buf.entries, e.slot ≠ i) → exec .discard s = .next (executed 0x00 [] s))

/-- Extending the force horizon to a batch: it becomes that batch when it is none or names an older one, and is otherwise
unchanged; extended to no batch it is unchanged (R123). FLUSH: STATE in PASS. In ENGAGED with a slot FREE the open batch
becomes CLOSED with tag 0 and COMMAND_CLOSED, another opens, every HELD batch becomes CLOSED and keeps its other fields,
and the horizon reaches the batch just closed, the youngest; an owed force-close lapses (R125). With none FREE every HELD
batch becomes CLOSED in the same way, a pending close is set instead, and the horizon reaches the youngest non-OPEN batch.
In QUIESCING the horizon alone is extended. Nothing else changes; the drain engine then tests R103 (R127, R128). -/
def Obligations.FlushForces : Prop :=
  (∀ (q : Half) (s : State),
     extendHorizon q s =
       { s with
         drain.horizon :=
           match s.drain.horizon with
           | none => some q
           | some h => if (s.batch.seqCounter - q).toNat < (s.batch.seqCounter - h).toNat then some q else some h })
    ∧ (∀ s : State, extendHorizonTo none s = s
        ∧ ∀ i : SlotIx, extendHorizonTo (some i) s = extendHorizon (slotOf i s).sequence s)
    ∧ ∀ s : State, portReady [0x33] s →
        let released (b : Slot) : Slot := if b.state = .held then { b with state := .closed } else b
        (s.part = .pass → exec .flush s = .next (executed 0x03 [] s))
          ∧ (s.part = .engaged → exec .flush s = .next (executed 0x00 [] (engineTest (flushEngaged s))))
          ∧ (s.part = .quiescing →
              (youngestNonOpen s = none → exec .flush s = .next (executed 0x00 [] (engineTest s)))
                ∧ ∀ k, youngestNonOpen s = some k →
                    exec .flush s = .next (executed 0x00 [] (engineTest (extendHorizon (slotOf k s).sequence s))))
          ∧ (∀ i j : SlotIx, countSlots .opened s = 1 → openSlot s = some i → freeSlot s = some j →
              let t := flushEngaged s
              let q := (slotOf i s).sequence
              let older (h : Half) : Prop := (s.batch.seqCounter + 1 - q).toNat < (s.batch.seqCounter + 1 - h).toNat
              openSlot t = some j ∧ oldestHeld t = none
                ∧ slotOf j t = freshSlot s.batch.seqCounter
                ∧ slotOf i t = { slotOf i s with
                    state := .closed, tag := 0, commandClosed := true, closeFrame := s.sync.frameCounter }
                ∧ (∀ k, k ≠ i → k ≠ j → slotOf k t = released (slotOf k s))
                ∧ t = { s with
                    batch := { slots := t.batch.slots, seqCounter := s.batch.seqCounter + 1,
                               pendingClose := s.batch.pendingClose }
                    drain.horizon := t.drain.horizon
                    stall.forceCloseOwed := false }
                ∧ ((∀ h, s.drain.horizon = some h → older h) →
                    (∀ k, k ≠ i → slotState k s ≠ .free → older (slotOf k s).sequence) → t.drain.horizon = some q))
          ∧ (freeSlot s = none →
              let t := flushEngaged s
              openSlot t = openSlot s ∧ oldestHeld t = none ∧ (∀ k, slotOf k t = released (slotOf k s))
                ∧ t = { s with
                    batch := { slots := t.batch.slots, seqCounter := s.batch.seqCounter, pendingClose := true }
                    drain.horizon := t.drain.horizon }
                ∧ (youngestNonOpen s = none → t.drain.horizon = s.drain.horizon)
                ∧ ∀ k, youngestNonOpen s = some k →
                    t.drain.horizon = (extendHorizon (slotOf k s).sequence s).drain.horizon)

/-! ### Pins and time -/

/-- RESETn falls: the part is in PASS, every setting has its pin-reset value, the runtime state is cleared, the setup port
takes nothing and IRQn is undriven (R178, R164, Table 10-5); the requests in progress go on as R179 gives. A consumer
store in progress is not snooped again (log entry 14) and keeps its mark (log entry 28); the sequence of a FREE slot, the
cause and limit of the inactive stall and the ticks of the idle engine are the model's choice (log entry 3). RESETn rises:
the blanking state is taken from BLANK and the cycle count starts from 0 (R178, R99); it is kept under the two BLANK
sources alone (R98, R99). -/
def Obligations.PinResetAndItsRise : Prop :=
  (∀ s : State, s.resetn = true →
     exec .pinReset s =
         .next { s with
           resetn := false
           cfg := Settings.reset
           part := .pass
           setup := { phase := if s.setup.phase = .noTransaction then .noTransaction else .blocked, sdo := none,
                      softResetPending := false }
           ev := { flags := 0, counters := Counters.zero, errinfo := none }
           buf := { entries := [], highWater := 0 }
           batch := BatchQueue.reset
           sync := { clkCycles := 0, blanking := some s.blank, frameCounter := 0 }
           drain := DrainEngine.reset
           stall := Stall.reset
           recs := RecordUnit.reset
           sys := s.sys.afterReset
           waits := Waits.zero
           inFlight := s.inFlight.map fun f => { f with cutOff := true } }
       ∧ (∀ t, exec .pinReset s = .next t → irqLow t = false)
       ∧ Settings.reset.stall = 20000 ∧ Settings.reset.share = 8 ∧ Settings.reset.tick = 25 ∧ Settings.reset.mask = 0
       ∧ Settings.reset.marks = none ∧ Settings.reset.ringSize = 0 ∧ Settings.reset.ringBase = 0
       ∧ Settings.reset.source = .blankHigh
       ∧ ∀ i : Fin 16, Settings.reset.windows[i] =
           { enabled := false, originWord := 0, originLane := 0, width := 4, height := 1, pitch := 1, format := .p8,
             mode := .direct, raster := 0xA, keyEnable := false, keyValue := 0, keyMask := 0xFFFFFFFF })
    ∧ (∀ s : State, s.resetn = false →
         exec .resetnRise s =
           .next { s with resetn := true, sync.clkCycles := 0, sync.blanking := blankingFromPin s.cfg.source s.blank })
    ∧ ∀ high : Bool,
        blankingFromPin .blankHigh high = some high ∧ blankingFromPin .blankLow high = some (!high)
          ∧ blankingFromPin .immediate high = none

/-- A tick: the cycle count restarts; an active stall that has not expired counts it up to its limit, and the drain ticks
count it while a batch is DRAINING, saturating; while RESETn is low none is counted (R96, R104, R121, R178). That the tick
which reaches the limit only counts, the expiry being a row of its own, is the model's choice (log entry 10); so is that
the cycle count only restarts (log entry 11). -/
def Obligations.TickAdvances : Prop :=
  ∀ s : State,
    (s.resetn = false → exec .timeBaseTick s = .next s)
      ∧ (s.resetn = true →
          exec .timeBaseTick s =
            .next { s with
              sync.clkCycles := 0
              stall := if s.stall.active = true ∧ s.stall.expired = false ∧ s.stall.elapsed.toNat < s.stall.limit.toNat
                then { s.stall with elapsed := s.stall.elapsed + 1 } else s.stall
              drain := if s.drain.current ≠ none
                then { s.drain with ticks := if s.drain.ticks < 65535 then s.drain.ticks + 1 else s.drain.ticks }
                else s.drain })

/-- The expiry of a stall whose timer stands at its limit: expired becomes yes, EXPIRY is raised, the expiry is
counted, the force for its cause is made and the drain engine tests R103 (R121, R123); with cause (b) the horizon is
extended to the oldest non-OPEN batch and with cause (c) to the youngest (R124); with cause (a) it is extended to the
oldest non-OPEN batch that holds an entry (R124), and when none holds one but empty ones are in flight, a force-close
becomes owed and the horizon is extended to the youngest non-OPEN batch (R125). A force-close: a cause (a) stall that
expires with the open batch alone in flight closes it with tag 0 and FORCE_CLOSED, opens another in the lowest-
numbered FREE slot and puts the closed batch within the horizon (R125). -/
def Obligations.StallExpiryAndForceClose : Prop :=
  let forceClosed (i j : SlotIx) (u : State) : State :=
    { u with
      batch.slots :=
        (u.batch.slots.set i
            { slotOf i u with state := .closed, tag := 0, forceClosed := true, closeFrame := u.sync.frameCounter }).set j
          (freshSlot u.batch.seqCounter)
      batch.seqCounter := u.batch.seqCounter + 1
      drain.horizon := some (slotOf i u).sequence
      stall.forceCloseOwed := false }
  (∀ s : State, s.stall.active = true → s.stall.expired = false → s.stall.limit.toNat ≤ s.stall.elapsed.toNat →
     let t := { s with
       stall.expired := true
       ev.flags := s.ev.flags ||| 0x08
       ev.counters.stallExpiries :=
         if s.ev.counters.stallExpiries < 65535 then s.ev.counters.stallExpiries + 1 else s.ev.counters.stallExpiries }
     exec .stallExpiry s = .next (engineTest (forceFor s.stall.cause t))
       ∧ (s.stall.cause = .slot → forceFor s.stall.cause t = extendHorizonTo (oldestNonOpen t) t)
       ∧ (s.stall.cause = .pass → forceFor s.stall.cause t = extendHorizonTo (youngestNonOpen t) t)
       ∧ (s.stall.cause = .place → ∀ i, oldestNonOpenWithEntry t = some i →
           forceFor s.stall.cause t = extendHorizon (slotOf i t).sequence t)
       ∧ (s.stall.cause = .place → oldestNonOpenWithEntry t = none → ∀ k, youngestNonOpen t = some k →
           forceFor s.stall.cause t = extendHorizon (slotOf k t).sequence { t with stall.forceCloseOwed := true })
       ∧ (s.stall.cause = .place → forceFor s.stall.cause t = forceForPlace t)
       ∧ (s.stall.cause = .place → oldestNonOpen t = none → t.drain.horizon = none →
           ∀ i j, openSlot t = some i → freeSlot t = some j →
             exec .stallExpiry s = .next (engineTest (forceClosed i j t))))
    ∧ (∀ (i j : SlotIx) (s : State),
         s.stall.active = true → oldestNonOpen s = none → openSlot s = some i → freeSlot s = some j → s.drain.horizon = none →
         forceForPlace s = forceClosed i j s)

/-- A blank start: the blanking state, the frame counter and the Frames counter, the drain set and the test of R103 (R99,
R100, R102). The drain set takes in, behind the batches that are DRAINING or in it, the run of CLOSED batches up to the
first HELD or OPEN one, and its end becomes the youngest taken in (R102). A blank end changes the blanking state and the
pin alone; a level that is no crossing, IMMEDIATE, and RESETn low change the pin without an event (R99, R178). That
BLANK_PIN_CHANGE raises the event of its crossing is log entry 13's deduction; that BLANK_START and BLANK_END drive the
pin is the model's choice (log entry 8). -/
def Obligations.BlankEvents : Prop :=
  (∀ s : State, s.resetn = true → s.sync.blanking = some false →
     let t (high : Bool) := { s with
       blank := high
       sync.blanking := some true
       sync.frameCounter := s.sync.frameCounter + 1
       ev.counters.frames := if s.ev.counters.frames < 65535 then s.ev.counters.frames + 1 else s.ev.counters.frames }
     (s.cfg.source = .blankHigh → exec .blankStart s = .next (engineTest (extendDrainSet (t true)))
         ∧ exec (.blankPinChange true) s = .next (engineTest (extendDrainSet (t true))))
       ∧ (s.cfg.source = .blankLow → exec .blankStart s = .next (engineTest (extendDrainSet (t false)))
           ∧ exec (.blankPinChange false) s = .next (engineTest (extendDrainSet (t false)))))
    ∧ (∀ (s : State) (seen taken rest : List SlotIx),
         queueOrder s = seen ++ taken ++ rest →
         (∀ k ∈ seen, slotState k s = .draining ∨ inDrainSet (slotOf k s).sequence s = true) →
         (∀ k, (taken ++ rest).head? = some k →
           slotState k s ≠ .draining ∧ inDrainSet (slotOf k s).sequence s = false) →
         (∀ k ∈ taken, slotState k s = .closed) → (∀ k, rest.head? = some k → slotState k s ≠ .closed) →
         extendDrainSet s =
           match taken.getLast? with
           | some k => { s with drain.setEnd := some (slotOf k s).sequence }
           | none => s)
    ∧ (∀ (high : Bool) (s : State),
         (s.resetn = true → s.sync.blanking = some true → s.cfg.source = .blankHigh →
             exec .blankEnd s = .next { s with blank := false, sync.blanking := some false }
               ∧ exec (.blankPinChange false) s = .next { s with blank := false, sync.blanking := some false })
           ∧ (s.resetn = true → s.sync.blanking = some true → s.cfg.source = .blankLow →
               exec .blankEnd s = .next { s with blank := true, sync.blanking := some false }
                 ∧ exec (.blankPinChange true) s = .next { s with blank := true, sync.blanking := some false })
           ∧ (s.cfg.source = .blankHigh → s.sync.blanking = some high →
               exec (.blankPinChange high) s = .next { s with blank := high })
           ∧ (s.cfg.source = .blankLow → s.sync.blanking = some (!high) →
               exec (.blankPinChange high) s = .next { s with blank := high })
           ∧ (s.resetn = false ∨ s.cfg.source = .immediate →
               exec (.blankPinChange high) s = .next { s with blank := high }))

/-! ### The system port -/

/-- A read of a word without entries, none with its address, or whose entries do not determine it, goes to the arbiter;
one whose composed entries have keep 0 on all lanes is answered at acceptance with the composed flip bits; nothing else
changes (R46, R47). Memory answers a system read: the snapshot is applied to the data, or ERROR is answered and reported
(R48, R49, R157, R159); nothing else changes. A refresh read waits at the arbiter with the refresh master's word and
lanes, and memory's answer is passed back unchanged, an ERROR reported (R148, R157). -/
def Obligations.SystemAndRefreshReads : Prop :=
  (∀ (word : WordAddr) (lanes : LaneMask) (s : State), s.sys = .idle →
     let c := composed word s
     let job (forwarded : Bool) : SysPort :=
       .read { word := word, lanes := lanes, forwarded := forwarded, granted := false, snapshot := Transform.identity }
     (wordHasEntry word s = false →
         exec (.systemRead word lanes) s = .next { s with sysAnswer := none, sys := job false })
       ∧ (wordHasEntry word s = true → c.keep = 0#32 →
           exec (.systemRead word lanes) s = .next { s with sys := .idle, sysAnswer := some (.data c.flip) })
       ∧ (wordHasEntry word s = true → c.keep ≠ 0#32 →
           exec (.systemRead word lanes) s = .next { s with sysAnswer := none, sys := job true }))
    ∧ (∀ (r : ReadJob) (f : InFlight) (d : Word) (s : State),
         s.inFlight = some f → f.req.kind = .systemRead → s.sys = .read r →
         exec (.systemReadResponse (.ok d)) s =
             .next { s with inFlight := none, sys := .idle,
                            sysAnswer := some (.data ((d &&& r.snapshot.keep) ^^^ r.snapshot.flip)) }
           ∧ exec (.systemReadResponse .error) s =
             .next (errorReported f { s with inFlight := none, sys := .idle, sysAnswer := some .error }))
    ∧ (∀ (word : WordAddr) (lanes : LaneMask) (f : InFlight) (d : Word) (s : State),
    (s.refresh = .idle →
        exec (.refreshRead word lanes) s = .next { s with refresh := .waiting word lanes, refreshAnswer := none })
      ∧ (s.inFlight = some f → f.req.kind = .refreshRead →
          exec (.refreshReadResponse (.ok d)) s =
              .next { s with inFlight := none, refresh := .idle, refreshAnswer := some (.data d) }
            ∧ exec (.refreshReadResponse .error) s =
              .next (errorReported f { s with inFlight := none, refresh := .idle, refreshAnswer := some .error })))
    ∧ ∀ (word : WordAddr) (s : State), wordHasEntry word s = true ↔ ∃ e ∈ s.buf.entries, e.word = word

/-- A write with no lane enabled is answered OK at acceptance in every part state and has no effect (R68). A write
accepted in PASS is plain: one memory write of its enabled lanes with the written data waits at the arbiter (R69). A
write in QUIESCING with a deferrable lane, enabled and held or enabled and resolved to a DEFER window, stalls with cause (c)
(R70, R119). -/
def Obligations.WritesInPassAndQuiescing : Prop :=
  (∀ (word : WordAddr) (lanes : LaneMask) (data : Word) (s : State), s.sys = .idle →
     (exec (.systemWrite word 0#4 data) s = .next { s with sys := .idle, sysAnswer := some .ok })
       ∧ (s.part = .pass → lanes ≠ 0#4 → markOf s.cfg word lanes ≠ some .consumer →
           ∃ w : WriteJob, exec (.systemWrite word lanes data) s = .next { s with sysAnswer := none, sys := .write w }
             ∧ systemRequest { s with sys := .write w }
                 = some { kind := .immediateWrite, word := word, lanes := lanes, data := data &&& laneBits lanes }))
    ∧ (∀ (word : WordAddr) (lanes : LaneMask) (data : Word) (s : State),
         s.sys = .idle → s.part = .quiescing → lanes ≠ 0#4 → someDeferrable s word lanes →
         exec (.systemWrite word lanes data) s =
           .next { s with
             sys := .write { classifiedJob s word lanes data with phase := .waitPass }
             sysAnswer := none
             stall := freshStall .pass s
             ev.counters.stalls := if s.ev.counters.stalls < 65535 then s.ev.counters.stalls + 1
               else s.ev.counters.stalls })

/-- The classes and the word transform of a write are those of its four lanes side by side (R18, R56, R57). Its lanes to
hold are its carried and deferred lanes whose transform is not identity; its transform to hold is the word transform on
them and identity elsewhere (R42). Composing into the entry of a word and slot unites the lane sets and composes the
pairs, every entry at its position and the others unchanged (R43); a new entry takes the youngest position and lifts the
high-water mark (R34, R44, R55). A write in ENGAGED to a word that is no watched word,
with lanes to hold and no immediate lanes, is composed into the open batch's entry (R43), or makes an entry when a place is
free (R44, R55), and is answered OK (R68). With immediate lanes as well it asks for its destination read first when a direct
lane needs it, a place reserved where it will need one (R39, R61, R62), and otherwise commits and asks for its memory write
(R64, R65). With no place free it stalls with cause (a) (R61, R119). -/
def Obligations.HeldWriteCommits : Prop :=
  (∀ (word : WordAddr) (lanes : LaneMask) (data : Word) (i : LaneIx) (s : State),
     let w := classifiedJob s word lanes data
     let x := laneWork s word lanes data (heldLanes word s) i
     w.word = word ∧ w.lanes = lanes ∧ w.data = data ∧ w.classes.get i = x.cls ∧ laneByte w.xf.keep i = x.keep
       ∧ laneByte w.xf.flip i = x.flip)
    ∧ (∀ (w : WriteJob) (i : LaneIx),
         (hasLane w.lanesToHold i = true ↔
           (w.classes.get i = .carried ∨ w.classes.get i = .deferred)
             ∧ ¬(laneByte w.xf.keep i = 0xFF#8 ∧ laneByte w.xf.flip i = 0x00#8))
           ∧ (hasLane w.lanesToHold i = true →
               laneByte w.holdTransform.keep i = laneByte w.xf.keep i
                 ∧ laneByte w.holdTransform.flip i = laneByte w.xf.flip i)
           ∧ (hasLane w.lanesToHold i = false →
               laneByte w.holdTransform.keep i = 0xFF#8 ∧ laneByte w.holdTransform.flip i = 0x00#8))
    ∧ (∀ (word : WordAddr) (i : SlotIx) (m : LaneMask) (u : Transform) (s : State),
         composeEntry word i m u s =
           { s with
             buf.entries := s.buf.entries.map fun e =>
               if e.word = word ∧ e.slot = i then
                 { e with lanes := e.lanes ||| m,
                          xf := { keep := e.xf.keep &&& u.keep, flip := (e.xf.flip &&& u.keep) ^^^ u.flip } }
               else e })
    ∧ (∀ (e : Entry) (s : State),
         addEntry e s =
           { s with buf := { entries := s.buf.entries ++ [e], highWater := max s.buf.highWater (s.buf.entries.length + 1) } })
    ∧ (∀ (word : WordAddr) (i : SlotIx) (s : State),
         findEntry word i s = s.buf.entries.find? fun e => e.word == word && e.slot == i)
    ∧ (∀ (t : Transform) (m : LaneMask) (i : LaneIx),
         laneByte (t.restrict m).keep i = (if hasLane m i then laneByte t.keep i else 0xFF)
           ∧ laneByte (t.restrict m).flip i = if hasLane m i then laneByte t.flip i else 0x00)
    ∧ ∀ (word : WordAddr) (lanes : LaneMask) (data : Word) (i : SlotIx) (s : State),
        s.sys = .idle → s.part = .engaged → lanes ≠ 0#4 → markOf s.cfg word lanes = none → openSlot s = some i →
        let w := classifiedJob s word lanes data
        let composedIn : State := composeEntry word i w.lanesToHold w.holdTransform s
        let added : State :=
          { s with
            buf.entries := s.buf.entries ++ [{ word := word, slot := i, lanes := w.lanesToHold, xf := w.holdTransform }]
            buf.highWater := max s.buf.highWater (s.buf.entries.length + 1) }
        let leads (t : State) : Prop := exec (.systemWrite word lanes data) s = .next t
        w.lanesToHold ≠ 0#4 →
        (∀ e, findEntry word i s = some e →
            (w.immediateLanes = 0#4 → leads { composedIn with sys := .idle, sysAnswer := some .ok })
              ∧ (w.immediateLanes ≠ 0#4 → w.needsDestination = true →
                  leads { s with sys := .write { w with phase := .destRequested }, sysAnswer := none })
              ∧ (w.immediateLanes ≠ 0#4 → w.needsDestination = false →
                  leads { composedIn with sys := .write { w with phase := .writeRequested }, sysAnswer := none }))
          ∧ (findEntry word i s = none → s.buf.entries.length < 1024 →
              (w.immediateLanes = 0#4 → leads { added with sys := .idle, sysAnswer := some .ok })
                ∧ (w.immediateLanes ≠ 0#4 → w.needsDestination = true →
                    leads { s with sys := .write { w with reserved := true, phase := .destRequested }, sysAnswer := none })
                ∧ (w.immediateLanes ≠ 0#4 → w.needsDestination = false →
                    leads { added with sys := .write { w with phase := .writeRequested }, sysAnswer := none }))
          ∧ (findEntry word i s = none → 1024 ≤ s.buf.entries.length →
              leads { s with
                sys := .write { w with phase := .waitPlace }
                sysAnswer := none
                stall := freshStall .place s
                ev.counters.stalls := if s.ev.counters.stalls < 65535 then s.ev.counters.stalls + 1
                  else s.ev.counters.stalls })

/-- A write in ENGAGED, or without a deferrable lane in QUIESCING, that has immediate lanes and nothing to hold asks for
its destination read when a direct lane needs it, and otherwise for its memory write (R62, R65, R70); one that has
neither, its lanes keyed out or identity, is answered OK at acceptance (R68). The immediate lanes are the direct and plain
ones (R57); the destination is needed exactly when some keep bit of an immediate lane is 1 (R27, R62); the memory write
carries the flip bits on an immediate lane with keep bits 0, (read data AND keep) XOR flip with the read data kept, and
0x00 on every other lane (R65). A write is a mark exactly when it enables all four lanes of a configured watched word
(R56, R74). A full-word store to the close word or the release word in QUIESCING has no batch effect and goes to memory
plain (R73, R87, R91). Memory answers a system write's memory write: the system master receives OK or ERROR once, and an
ERROR is reported; entries and batches stand (R68, R157). -/
def Obligations.ImmediateWrites : Prop :=
  (∀ (word : WordAddr) (lanes : LaneMask) (data : Word) (s : State),
     s.sys = .idle → (s.part = .engaged ∨ (s.part = .quiescing ∧ ¬someDeferrable s word lanes)) →
     lanes ≠ 0#4 → markOf s.cfg word lanes = none →
     let w := classifiedJob s word lanes data
     w.lanesToHold = 0#4 →
     (w.immediateLanes ≠ 0#4 → w.needsDestination = true →
         exec (.systemWrite word lanes data) s =
           .next { s with sysAnswer := none, sys := .write { w with phase := .destRequested } })
       ∧ (w.immediateLanes ≠ 0#4 → w.needsDestination = false →
           exec (.systemWrite word lanes data) s =
             .next { s with sysAnswer := none, sys := .write { w with phase := .writeRequested } })
       ∧ (w.immediateLanes = 0#4 →
           exec (.systemWrite word lanes data) s = .next { s with sysAnswer := some .ok, sys := .idle }))
    ∧ (∀ w : WriteJob,
         (w.needsDestination = true ↔
           ∃ (i : LaneIx) (k : Fin 8), hasLane w.immediateLanes i = true ∧ (laneByte w.xf.keep i).getLsbD k = true)
           ∧ ∀ i : LaneIx,
               (hasLane w.immediateLanes i = true ↔ w.classes.get i = .direct ∨ w.classes.get i = .plain)
                 ∧ (hasLane w.immediateLanes i = true → laneByte w.xf.keep i = 0x00#8 →
                     laneByte w.memoryData i = laneByte w.xf.flip i)
                 ∧ (∀ d, hasLane w.immediateLanes i = true → w.readData = some d →
                     laneByte w.memoryData i = (laneByte d i &&& laneByte w.xf.keep i) ^^^ laneByte w.xf.flip i)
                 ∧ (hasLane w.immediateLanes i = false → laneByte w.memoryData i = 0x00#8))
    ∧ (∀ (c : Settings) (word : WordAddr) (lanes : LaneMask),
         markOf c word lanes = none ↔
           lanes ≠ 0xF#4 ∨ ∀ m, c.marks = some m → word ≠ m.close ∧ word ≠ m.release ∧ word ≠ m.consumer)
    ∧ (∀ (m : Marks) (data : Word) (s : State),
         s.sys = .idle → s.part = .quiescing → s.cfg.marks = some m →
         (ordinaryWord m.close s →
             exec (.systemWrite m.close 0xF data) s =
               .next { s with sysAnswer := none, sys := .write (plainStore m.close data (some .close) false) })
           ∧ (m.release ≠ m.close → ordinaryWord m.release s →
             exec (.systemWrite m.release 0xF data) s =
               .next { s with sysAnswer := none, sys := .write (plainStore m.release data (some .release) false) }))
    ∧ (∀ (w : WriteJob) (f : InFlight) (s : State),
         s.inFlight = some f → f.req.kind = .immediateWrite → s.sys = .write w →
         exec (.immediateWriteResponse .ok) s =
             .next { s with inFlight := none, sys := .idle, sysAnswer := some .ok }
           ∧ exec (.immediateWriteResponse .error) s =
             .next (errorReported f { s with inFlight := none, sys := .idle, sysAnswer := some .error }))

/-- A full-word store to the close word in ENGAGED: with a slot FREE the open batch closes with the tag of lane 0, HELD when
lane 1 is not 0, another batch opens in the lowest-numbered FREE slot, the drain engine tests R103, and the store goes to
memory plain (R86, R87, R73, R81); with none FREE it stalls with cause (b) (R88, R119). -/
def Obligations.CloseStoreCloses : Prop :=
  ∀ (m : Marks) (data : Word) (i : SlotIx) (s : State),
    s.sys = .idle → s.part = .engaged → s.cfg.marks = some m → ordinaryWord m.close s → openSlot s = some i →
    let hold : Bool := laneByte data 1 != 0#8
    let closed : Slot :=
      { slotOf i s with state := if hold then .held else .closed, tag := laneByte data 0, wasHeld := hold,
                        closeFrame := s.sync.frameCounter }
    (∀ j, freeSlot s = some j →
        exec (.systemWrite m.close 0xF data) s =
          .next { engineTest { s with
              sysAnswer := none
              batch.slots := (s.batch.slots.set i closed).set j (freshSlot s.batch.seqCounter)
              batch.seqCounter := s.batch.seqCounter + 1 } with
            sys := .write (plainStore m.close data (some .close) false) })
      ∧ (freeSlot s = none →
          exec (.systemWrite m.close 0xF data) s =
            .next { s with
              sys := .write { plainStore m.close data (some .close) false with phase := .waitSlot }
              sysAnswer := none
              stall := freshStall .slot s
              ev.counters.stalls := if s.ev.counters.stalls < 65535 then s.ev.counters.stalls + 1
                else s.ev.counters.stalls })

/-- A full-word store to the release word in ENGAGED makes the oldest HELD batch CLOSED, keeping its other fields, and the
drain engine tests R103; with none HELD no batch changes; the store goes to memory plain, its value not examined (R91,
R73). -/
def Obligations.ReleaseStoreReleases : Prop :=
  ∀ (m : Marks) (data : Word) (s : State),
    s.sys = .idle → s.part = .engaged → s.cfg.marks = some m → m.release ≠ m.close → ordinaryWord m.release s →
    (∀ i, oldestHeld s = some i →
        exec (.systemWrite m.release 0xF data) s =
          .next { engineTest { s with
              sysAnswer := none
              batch.slots := s.batch.slots.set i { slotOf i s with state := .closed } } with
            sys := .write (plainStore m.release data (some .release) false) })
      ∧ (oldestHeld s = none → startChoice s = none →
          exec (.systemWrite m.release 0xF data) s =
            .next { s with sysAnswer := none, sys := .write (plainStore m.release data (some .release) false) })

/-- A full-word store to the consumer word in any part state: C takes the low 16 bits when (P − value) is at most the size,
or size − 1 while a record is in progress, and the writer tests R137; otherwise C is unchanged and RING_ERR is raised; the
store goes to memory plain (R141, R73). A record is in progress from the request of its word 1 to the grant of its word 0
(R137); the unread records are (P − C) mod 65,536 (R141). -/
def Obligations.ConsumerStoreSnooped : Prop :=
  (∀ s : State,
     (recordInProgress s = true ↔
         (∃ w, s.recs.writer = .requested w) ∨ ∃ w, s.recs.writer = .inFlight w ∧ w ≠ .word0)
       ∧ unread s = (s.recs.prod - s.recs.cons).toNat)
    ∧ ∀ (m : Marks) (data : Word) (s : State),
    s.sys = .idle → s.cfg.marks = some m → m.consumer ≠ m.close → m.consumer ≠ m.release →
    ordinaryWord m.consumer s →
    let v : Half := data.extractLsb' 0 16
    let limit := if recordInProgress s = true then s.cfg.ringSize - 1 else s.cfg.ringSize
    let job : SysPort := .write (plainStore m.consumer data (some .consumer) (decide (s.part = .pass)))
    ((s.recs.prod - v).toNat ≤ limit →
        exec (.systemWrite m.consumer 0xF data) s =
          .next { s with
            sysAnswer := none
            sys := job
            recs.cons := v
            recs.writer := if s.recs.writer = .idle ∧ s.recs.records ≠ [] ∧ (s.recs.prod - v).toNat < s.cfg.ringSize
              then .requested .word1 else s.recs.writer })
      ∧ (limit < (s.recs.prod - v).toNat →
          exec (.systemWrite m.consumer 0xF data) s =
            .next { s with sysAnswer := none, sys := job, ev.flags := s.ev.flags ||| 0x40 })

/-- Memory answers a destination read. On ERROR the write is dropped, its reservation released, and the error reported
(R63). On OK the data is kept; a write with nothing to hold asks for its memory write; one with lanes to hold commits first
(R62, R64), and with no place for its entry stalls with cause (a), its data kept (R44, R66). With no slot OPEN, or when
DISENGAGE has executed during the read, the commit is refused (R44, R71): in QUIESCING the write stalls with cause (c), and
otherwise it is completed as plain at once (R67; for a part that is ENGAGED again, log entry 22). After a reset the data is
discarded and the plain write is asked for (R72). -/
def Obligations.DestinationReadAnswered : Prop :=
  ∀ (w : WriteJob) (f : InFlight) (d : Word) (s : State),
    s.inFlight = some f → f.req.kind = .destinationRead → s.sys = .write w →
    let answered (t : State) : Prop := exec (.destinationReadResponse (.ok d)) s = .next t
    let stalls := if s.ev.counters.stalls < 65535 then s.ev.counters.stalls + 1 else s.ev.counters.stalls
    (w.plain = false →
        exec (.destinationReadResponse .error) s =
          .next (errorReported f { s with inFlight := none, sys := .idle, sysAnswer := some .error }))
      ∧ (w.plain = false → w.lanesToHold = 0#4 → w.immediateLanes ≠ 0#4 →
          answered { s with inFlight := none, sys := .write { w with readData := some d, phase := .writeRequested } })
      ∧ (w.plain = false → w.lanesToHold ≠ 0#4 → w.immediateLanes ≠ 0#4 → w.leftEngaged = false →
          ∀ i, openSlot s = some i →
            (∀ e, findEntry w.word i s = some e →
                answered { composeEntry w.word i w.lanesToHold w.holdTransform s with
                  inFlight := none
                  sys := .write { w with readData := some d, reserved := false, phase := .writeRequested } })
              ∧ (findEntry w.word i s = none → w.reserved = true ∨ s.buf.entries.length < 1024 →
                  answered { addEntry { word := w.word, slot := i, lanes := w.lanesToHold, xf := w.holdTransform } s with
                    inFlight := none
                    sys := .write { w with readData := some d, reserved := false, phase := .writeRequested } })
              ∧ (findEntry w.word i s = none → w.reserved = false → 1024 ≤ s.buf.entries.length →
                  answered { s with
                    inFlight := none
                    sys := .write { w with readData := some d, phase := .waitCommitPlace }
                    stall := freshStall .place s
                    ev.counters.stalls := stalls }))
      ∧ (w.plain = false → w.lanesToHold ≠ 0#4 → openSlot s = none ∨ w.leftEngaged = true →
          (s.part = .quiescing →
              answered { s with
                inFlight := none
                sys := .write { w with reserved := false, readData := none, phase := .waitPass }
                stall := freshStall .pass s
                ev.counters.stalls := stalls })
            ∧ (s.part ≠ .quiescing → w.mark = none → w.lanes ≠ 0#4 →
                answered { s with
                  inFlight := none
                  sys := .write { w with classes := plainClasses w.lanes, xf := plainTransform w.lanes w.data,
                                         reserved := false, readData := none, plain := true, leftEngaged := false,
                                         phase := .writeRequested } }))
      ∧ (w.plain = true → w.immediateLanes ≠ 0#4 →
          answered { s with inFlight := none, sys := .write { w with readData := none, phase := .writeRequested } }
            ∧ exec (.destinationReadResponse .error) s =
              .next (errorReported f
                { s with inFlight := none, sys := .write { w with readData := none, phase := .writeRequested } }))

/-! ### The refresh port -/

/-- R149: a refresh write is answered with ERROR as soon as it is accepted, whatever its address and lanes and whatever the
part state, and changes nothing else; the port is then free. -/
def Obligations.RefreshWritesRefused : Prop :=
  ∀ (word : WordAddr) (lanes : LaneMask) (s : State), s.refresh = .idle →
    exec (.refreshWrite word lanes) s = .next { s with refresh := .idle, refreshAnswer := some .error }

/-! ### The arbiter and the grants -/

/-- The arbiter's order: refresh; the record writer at 32; the drain engine and the system path by preference and SHARE; the
record writer (R152, R153). A requester waits with its request: a refresh read accepted (R148); a word of the head record
(R138); an entry's read or write (R105, R106); a read not yet granted, a destination read or a memory write (R146). -/
def Obligations.ArbiterOrder : Prop :=
  (∀ s : State,
     ((refreshRequest s).isSome = true ↔ ∃ word lanes, s.refresh = .waiting word lanes)
       ∧ ((recordRequest s).isSome = true ↔ s.recs.records ≠ [] ∧ ∃ w, s.recs.writer = .requested w)
       ∧ ((drainRequest s).isSome = true ↔
           s.drain.entry ≠ none ∧ (s.drain.access = .readRequested ∨ s.drain.access = .writeRequested))
       ∧ ((systemRequest s).isSome = true ↔
           (∃ r, s.sys = .read r ∧ r.granted = false)
             ∨ ∃ w, s.sys = .write w ∧ (w.phase = .destRequested ∨ w.phase = .writeRequested)))
    ∧ ∀ s : State,
    let fresh := (refreshRequest s).isSome
    let recd := (recordRequest s).isSome
    let drn := (drainRequest s).isSome
    let sysq := (systemRequest s).isSome
    let preferDrain := s.cfg.source = .immediate ∨ s.sync.blanking = some true
    (fresh = true → choose s = some .refresh)
      ∧ (fresh = false → recd = true → 32 ≤ s.waits.record → choose s = some .record)
      ∧ (fresh = false → (recd = false ∨ s.waits.record < 32) →
          (drn = true → sysq = false → choose s = some .drain)
            ∧ (drn = false → sysq = true → choose s = some .system)
            ∧ (drn = true → sysq = true → preferDrain →
                choose s = if s.cfg.share.toNat ≤ s.waits.system then some .system else some .drain)
            ∧ (drn = true → sysq = true → ¬preferDrain →
                choose s = if s.cfg.share.toNat ≤ s.waits.drain then some .drain else some .system)
            ∧ (drn = false → sysq = false → choose s = if recd then some .record else none))

/-- ARBITER_GRANT with the port idle and a request chosen: that requester's waiting request is in flight and the wait
counts are those of R154, which stay at 65,535; with a request in flight, or none waiting, nothing changes (R150, R151;
that the grant is a row of its own is the model's choice, log entry 27). The grants that remove nothing: a refresh read; a
system read, which takes its snapshot when it is forwarded (R48); a destination read; a memory write; a drain read (R106).
That the request of a read holds data 0 is the model's choice (log entry 26): R150 gives data to a write alone. -/
def Obligations.GrantsOfEveryRequester : Prop :=
  (∀ s : State,
     (∀ f, s.inFlight = some f → exec .arbiterGrant s = .next s)
       ∧ (s.inFlight = none → choose s = none → exec .arbiterGrant s = .next s)
       ∧ (∀ r, s.inFlight = none → choose s = some r →
           ∃ t q, exec .arbiterGrant s = .next t ∧ t.inFlight = some { req := q, cutOff := !s.resetn }
             ∧ (match r with
                 | .refresh => refreshRequest s
                 | .record => recordRequest s
                 | .drain => drainRequest s
                 | .system => systemRequest s) = some q
             ∧ q.kind.requester = r ∧ t.cfg = s.cfg ∧ t.part = s.part
             ∧ t.waits.record =
                 (if r = .record then 0 else if (recordRequest s).isSome then countUp s.waits.record else s.waits.record)
             ∧ t.waits.drain =
                 (if r = .drain then 0
                   else if r = .system ∧ (drainRequest s).isSome = true then countUp s.waits.drain else s.waits.drain)
             ∧ t.waits.system =
                 (if r = .system then 0
                   else if r = .drain ∧ (systemRequest s).isSome = true then countUp s.waits.system
                   else s.waits.system)))
    ∧ (∀ (s : State), s.inFlight = none →
         (∀ word lanes, choose s = some .refresh → s.refresh = .waiting word lanes →
             exec .arbiterGrant s =
               .next { s with
                 refresh := .inFlight
                 waits := waitsAfter .refresh s
                 inFlight := some { req := { kind := .refreshRead, word := word, lanes := lanes, data := 0 },
                                    cutOff := !s.resetn } })
           ∧ (∀ r, choose s = some .system → s.sys = .read r → r.granted = false →
               exec .arbiterGrant s =
                 .next { s with
                   sys := .read { r with granted := true,
                                         snapshot := if r.forwarded then composed r.word s else Transform.identity }
                   waits := waitsAfter .system s
                   inFlight := some { req := { kind := .systemRead, word := r.word, lanes := 0xF, data := 0 },
                                      cutOff := !s.resetn } })
           ∧ (∀ w, choose s = some .system → s.sys = .write w → w.phase = .destRequested →
               exec .arbiterGrant s =
                 .next { s with
                   sys := .write { w with phase := .destInFlight }
                   waits := waitsAfter .system s
                   inFlight := some { req := { kind := .destinationRead, word := w.word, lanes := 0xF, data := 0 },
                                      cutOff := !s.resetn } })
           ∧ (∀ w, choose s = some .system → s.sys = .write w → w.phase = .writeRequested →
               exec .arbiterGrant s =
                 .next { s with
                   sys := .write { w with phase := .writeInFlight }
                   waits := waitsAfter .system s
                   inFlight := some { req := { kind := .immediateWrite, word := w.word, lanes := w.immediateLanes,
                                               data := w.memoryData }, cutOff := !s.resetn } })
           ∧ (∀ i e, choose s = some .drain → s.drain.current = some i → s.drain.entry = some e →
               s.drain.access = .readRequested →
               exec .arbiterGrant s =
                 .next { s with
                   drain.access := .readInFlight
                   waits := waitsAfter .drain s
                   inFlight := some { req := { kind := .drainRead, word := e.word, lanes := 0xF, data := 0 },
                                      cutOff := !s.resetn } }))
    ∧ ∀ n : Nat, countUp n = if n < 65535 then n + 1 else n

/-- The grant of a drain write: the entry leaves the buffer, entries drained increments, and outside blanking under a
BLANK source the batch becomes TORN once, with its event and count (R51, R107, R109); the place it frees then goes to a
write that waits for one. Its data is (read data AND keep) XOR flip on each lane of the set, the flip bits where the keep
bits are 0 (R105, R106); a lane outside the set carries no data (R106), and that it holds 0x00 is the model's choice (log
entry 26). A place is free while entries and reservation are fewer than 1024 (R32, R39).
A freed place: with no write waiting for one nothing changes; a write waiting in step 1 takes it
as its reservation, its stall ends, and it goes on to its destination read or commits (R40, R129); one waiting in step 3
commits with the data it kept (R66). -/
def Obligations.DrainWriteGrantAndFreedPlace : Prop :=
  (∀ (i : SlotIx) (e : Entry) (s : State),
     s.inFlight = none → choose s = some .drain → s.drain.current = some i → s.drain.entry = some e →
     s.drain.access = .writeRequested →
     ∃ u, exec .arbiterGrant s = .next (placeFreed u)
       ∧ u.buf = { s.buf with entries := s.buf.entries.filter (fun x => !(x.word == e.word && x.slot == i)) }
       ∧ u.drain = { s.drain with access := .writeInFlight }
       ∧ u.inFlight = some { req := { kind := .drainWrite, word := e.word, lanes := e.lanes,
                                      data := drainData e s.drain.readData }, cutOff := !s.resetn }
       ∧ u.waits = waitsAfter .drain s
       ∧ (slotOf i u).entriesDrained = (slotOf i s).entriesDrained + 1
       ∧ (s.cfg.source = .immediate ∨ s.sync.blanking = some true → (slotOf i u).torn = (slotOf i s).torn ∧ u.ev = s.ev)
       ∧ (s.cfg.source ≠ .immediate → s.sync.blanking ≠ some true → (slotOf i s).torn = false →
           (slotOf i u).torn = true ∧ u.ev.flags = s.ev.flags ||| 0x02
             ∧ u.ev.counters.tornBatches = countUp s.ev.counters.tornBatches)
       ∧ ((slotOf i s).torn = true → u.ev = s.ev)
       ∧ (slotOf i u).state = (slotOf i s).state ∧ (∀ j, j ≠ i → slotOf j u = slotOf j s)
       ∧ u.batch.seqCounter = s.batch.seqCounter ∧ u.cfg = s.cfg ∧ u.part = s.part ∧ u.recs = s.recs ∧ u.stall = s.stall
       ∧ u.sys = s.sys ∧ u.sysAnswer = s.sysAnswer
       ∧ slotOf i u =
           { slotOf i s with entriesDrained := (slotOf i s).entriesDrained + 1, torn := (slotOf i u).torn })
    ∧ (∀ (e : Entry) (readData : Option Word) (i : LaneIx),
         (hasLane e.lanes i = false → laneByte (drainData e readData) i = 0x00#8)
           ∧ (hasLane e.lanes i = true → laneByte e.xf.keep i = 0x00#8 →
               laneByte (drainData e readData) i = laneByte e.xf.flip i)
           ∧ ∀ d, hasLane e.lanes i = true → readData = some d →
               laneByte (drainData e readData) i = (laneByte d i &&& laneByte e.xf.keep i) ^^^ laneByte e.xf.flip i)
    ∧ (∀ s : State,
         placesUsed s = s.buf.entries.length + (match s.sys with | .write w => if w.reserved then 1 else 0 | _ => 0)
           ∧ (placeFree s = true ↔ placesUsed s < 1024) ∧ (placeFree s = false → placeFreed s = s))
    ∧ (∀ s : State, waitsForNoPlace s → placeFreed s = s)
    ∧ (∀ (w : WriteJob) (i : SlotIx) (s : State),
         s.sys = .write w → placeFree s = true → openSlot s = some i → w.leftEngaged = false →
         w.lanesToHold ≠ 0#4 → findEntry w.word i s = none →
         let ended : State := { s with stall.active := false, stall.forceCloseOwed := false }
         let added : State := { ended with
           buf.entries := s.buf.entries ++ [{ word := w.word, slot := i, lanes := w.lanesToHold, xf := w.holdTransform }]
           buf.highWater := max s.buf.highWater (s.buf.entries.length + 1) }
         let committed : State :=
           if w.immediateLanes = 0#4 then { added with sys := .idle, sysAnswer := some .ok }
           else { added with sys := .write { w with reserved := false, phase := .writeRequested } }
         (w.phase = .waitPlace →
             (w.needsDestination = true →
                 placeFreed s = { ended with sys := .write { w with reserved := true, phase := .destRequested } })
               ∧ (w.needsDestination = false → placeFreed s = committed))
           ∧ (w.phase = .waitCommitPlace → placeFreed s = committed))

/-- The grants of a record's words, in the slot P mod size of the ring: words 1 to 3 carry the fields of Table 11-3 (R138,
R180); at the grant of word 0 the word is formed from P, the lost count and the memory errors, P increments, the lost
count becomes 0, the record leaves the queue and RECORD is raised (R139, R180). Memory answers a record word: the writer
asks for the next word, whatever the answer, and after word 0 is idle and tests R137; an ERROR is reported (R138, R140); a
response to a request granted before a reset is discarded (R143). -/
def Obligations.RecordWordsWritten : Prop :=
  (∀ (w : RecWord) (r : Rec) (rest : List Rec) (s : State),
     s.inFlight = none → choose s = some .record → s.recs.writer = .requested w → s.recs.records = r :: rest →
     let flags : Byte :=
       0#2 ++ BitVec.ofBool r.commandClosed ++ BitVec.ofBool r.forceClosed ++ BitVec.ofBool r.wasHeld
         ++ BitVec.ofBool r.memErr ++ BitVec.ofBool r.forced ++ BitVec.ofBool r.torn
     let granted (place : Nat) (data : Word) : InFlight :=
       { req := { kind := .recordWrite, lanes := 0xF, data := data,
                  word := s.cfg.ringBase + BitVec.ofNat 24 (4 * (s.recs.prod.toNat % s.cfg.ringSize) + place) },
         cutOff := !s.resetn }
     let asked (f : InFlight) : State :=
       { s with recs.writer := .inFlight w, waits := waitsAfter .record s, inFlight := some f }
     (w = .word1 → exec .arbiterGrant s = .next (asked (granted 1 (flags ++ r.tag ++ r.sequence))))
       ∧ (w = .word2 → exec .arbiterGrant s =
           .next (asked (granted 2 (BitVec.ofNat 16 r.rmwCount ++ BitVec.ofNat 16 r.entriesDrained))))
       ∧ (w = .word3 → exec .arbiterGrant s =
           .next (asked (granted 3 (BitVec.ofNat 16 r.drainTime ++ r.frameAtStart))))
       ∧ (w = .word0 → exec .arbiterGrant s =
           .next { asked (granted 0 (BitVec.ofNat 8 r.memErrors ++ BitVec.ofNat 8 s.recs.lost ++ s.recs.prod)) with
             recs := { records := rest, writer := .inFlight .word0, prod := s.recs.prod + 1, cons := s.recs.cons, lost := 0 }
             ev.flags := s.ev.flags ||| 0x01 }))
    ∧ (∀ (f : InFlight) (s : State), s.inFlight = some f → f.req.kind = .recordWrite →
         (f.cutOff = false → ∀ w w', s.recs.writer = .inFlight w →
             (w = .word1 ∧ w' = .word2 ∨ w = .word2 ∧ w' = .word3 ∨ w = .word3 ∧ w' = .word0) →
             exec (.recordWriteResponse .ok) s = .next { s with inFlight := none, recs.writer := .requested w' }
               ∧ exec (.recordWriteResponse .error) s =
                 .next { errorReported f s with inFlight := none, recs.writer := .requested w' })
           ∧ (f.cutOff = false → s.recs.writer = .inFlight .word0 →
               let after : Writer :=
                 if s.recs.records ≠ [] ∧ (s.recs.prod - s.recs.cons).toNat < s.cfg.ringSize
                 then .requested .word1 else .idle
               exec (.recordWriteResponse .ok) s = .next { s with inFlight := none, recs.writer := after }
                 ∧ exec (.recordWriteResponse .error) s =
                   .next { errorReported f s with inFlight := none, recs.writer := after })
           ∧ (f.cutOff = true → ∀ r, exec (.recordWriteResponse r) s = .next { s with inFlight := none }))

/-! ### Batches and the drain -/

/-- The drain engine, when it is idle, starts the oldest non-OPEN batch alone, and exactly when the batch is CLOSED in the
drain set, CLOSED under IMMEDIATE, or CLOSED or HELD within the horizon; it is FORCED when only the last holds (R103, R126,
R90). The test of R103 starts that batch and takes its oldest entry, and changes nothing when there is none to start. The
start of a batch: DRAINING, the frame number at drain start, the drain ticks, and FORCED with its event and count when only
the horizon starts it (R104, R126). The batches in flight stand in the queue oldest first, by how far each sequence lies
below the sequence counter (R79; the measure is log entry 16's deduction), and a word's entries are composed in that order
(R36); the oldest and youngest batches of a kind are those of greatest and least age (R79, R91, R123, R124); the drain set
and the horizon take in the batches not younger than the one they name (R101); the FREE and the OPEN slot are the lowest-
numbered (R81, R80); each slot has its own record (R76, R77). -/
def Obligations.BatchesStart : Prop :=
  (∀ (f : Four Slot) (i k : SlotIx) (b : Slot) (s : State),
     slotOf i s = s.batch.slots.get i ∧ slotState i s = (slotOf i s).state
       ∧ (f.set i b).get k = if k = i then b else f.get k)
    ∧ (∀ s : State,
     let age (q : Half) : Nat := (s.batch.seqCounter - q).toNat
     let ageOf (i : SlotIx) : Nat := age (slotOf i s).sequence
     let nonOpen (i : SlotIx) : Prop := slotState i s ≠ .free ∧ slotState i s ≠ .opened
     let picks (o : Option SlotIx) (p : SlotIx → Prop) (before : SlotIx → SlotIx → Prop) : Prop :=
       (∀ i, o = some i → p i ∧ ∀ k, p k → before i k) ∧ (o = none → ∀ k, ¬p k)
     ((∀ i, i ∈ queueOrder s ↔ slotState i s ≠ .free) ∧ (queueOrder s).Nodup
         ∧ (queueOrder s).Pairwise fun i k => ageOf k ≤ ageOf i)
       ∧ (∀ word, wordEntries word s =
           (queueOrder s).filterMap fun i => s.buf.entries.find? fun e => e.word == word && e.slot == i)
       ∧ picks (oldestNonOpen s) nonOpen (fun i k => ageOf k ≤ ageOf i)
       ∧ picks (youngestNonOpen s) nonOpen (fun i k => ageOf i ≤ ageOf k)
       ∧ picks (oldestHeld s) (fun i => slotState i s = .held) (fun i k => ageOf k ≤ ageOf i)
       ∧ picks (oldestNonOpenWithEntry s) (fun i => nonOpen i ∧ ∃ e ∈ s.buf.entries, e.slot = i)
           (fun i k => ageOf k ≤ ageOf i)
       ∧ picks (freeSlot s) (fun i => slotState i s = .free) (· ≤ ·)
       ∧ picks (openSlot s) (fun i => slotState i s = .opened) (· ≤ ·)
       ∧ (∀ q, inDrainSet q s = true ↔ ∃ e, s.drain.setEnd = some e ∧ age e ≤ age q)
       ∧ ∀ q, inHorizon q s = true ↔ ∃ h, s.drain.horizon = some h ∧ age h ≤ age q)
    ∧ (∀ (i : SlotIx) (forced : Bool) (s : State),
     let normal : Prop :=
       slotState i s = .closed ∧ (inDrainSet (slotOf i s).sequence s = true ∨ s.cfg.source = .immediate)
     startChoice s = some (i, forced) ↔
       s.drain.current = none ∧ oldestNonOpen s = some i
         ∧ (forced = false ∧ normal
           ∨ forced = true ∧ ¬normal ∧ (slotState i s = .closed ∨ slotState i s = .held)
             ∧ inHorizon (slotOf i s).sequence s = true))
    ∧ (∀ s : State, startChoice s = none → engineTest s = s)
    ∧ (∀ (i : SlotIx) (forced : Bool) (e : Entry) (s : State),
         startChoice s = some (i, forced) → oldestEntry i s = some e →
         engineTest s = takeEntry i e (startBatch i forced s))
    ∧ (∀ (i : SlotIx) (s : State),
         let b := { slotOf i s with state := .draining, frameAtStart := s.sync.frameCounter }
         let d := { s.drain with current := some i, ticks := 0, entry := none, access := .none, readData := none }
         startBatch i false s = { s with batch.slots := s.batch.slots.set i b, drain := d }
           ∧ startBatch i true s =
             { s with
               batch.slots := s.batch.slots.set i { b with forced := true }
               drain := d
               ev.flags := s.ev.flags ||| 0x04
               ev.counters.forcedBatches := countUp s.ev.counters.forcedBatches })

/-- A slot's entries are taken in the order of their creation: its oldest entry is the first of the buffer in that slot
(R34, R105). Taking an entry: a read when some keep bit of its lane set is 1, counted as RMW, and otherwise the write
(R105). Memory answers a drain write: the engine takes the slot's next entry or completes the batch; an ERROR is reported
and counted against the batch (R107, R108); a response to a request granted before a reset is discarded, whatever the
engine then stands at (R115). -/
def Obligations.EntriesTakenAndDrainWriteAnswered : Prop :=
  (∀ (i : SlotIx) (s : State), oldestEntry i s = s.buf.entries.find? fun e => e.slot == i)
    ∧ (∀ (i : SlotIx) (e : Entry) (s : State),
     (e.xf.keep &&& laneBits e.lanes = 0#32 →
         takeEntry i e s = { s with drain.entry := some e, drain.access := .writeRequested, drain.readData := none })
       ∧ (e.xf.keep &&& laneBits e.lanes ≠ 0#32 →
           takeEntry i e s =
             { s with
               drain.entry := some e
               drain.access := .readRequested
               drain.readData := none
               batch.slots := s.batch.slots.set i { slotOf i s with rmwCount := (slotOf i s).rmwCount + 1 } }))
    ∧ (∀ (i : SlotIx) (f : InFlight) (s : State),
         s.inFlight = some f → f.req.kind = .drainWrite → s.drain.current = some i →
         (f.cutOff = false → exec (.drainWriteResponse .ok) s = .next (nextEntry i { s with inFlight := none }))
           ∧ (f.cutOff = false →
               let b := { slotOf i s with
                 memErr := true
                 memErrors := if (slotOf i s).memErrors < 255 then (slotOf i s).memErrors + 1 else (slotOf i s).memErrors }
               exec (.drainWriteResponse .error) s =
                 .next (nextEntry i
                   { errorReported f s with inFlight := none, batch.slots := s.batch.slots.set i b }))
           ∧ (∀ e, oldestEntry i s = some e → nextEntry i s = takeEntry i e s)
           ∧ (oldestEntry i s = none → nextEntry i s = engineTest (completeBatch i s)))
    ∧ ∀ (f : InFlight) (r : WriteReply) (s : State),
        s.inFlight = some f → f.req.kind = .drainWrite → f.cutOff = true →
        exec (.drainWriteResponse r) s = .next { s with inFlight := none }

/-- Memory answers a drain read: on OK the write is formed and requested (R106); on ERROR the entry is removed, counted
and flagged, the error reported, its place goes to a write that waits for one, and the engine goes on (R52, R108, R40); a
response to a request granted before a reset is discarded, whatever the engine then stands at (R115). -/
def Obligations.DrainReadAnswered : Prop :=
  (∀ (i : SlotIx) (e : Entry) (f : InFlight) (d : Word) (s : State),
    s.inFlight = some f → f.req.kind = .drainRead → s.drain.current = some i → s.drain.entry = some e →
    (f.cutOff = false →
        exec (.drainReadResponse (.ok d)) s =
          .next { s with inFlight := none, drain.readData := some d, drain.access := .writeRequested })
      ∧ (f.cutOff = false →
          let b := { slotOf i s with
            memErr := true
            memErrors := if (slotOf i s).memErrors < 255 then (slotOf i s).memErrors + 1 else (slotOf i s).memErrors
            entriesDrained := (slotOf i s).entriesDrained + 1 }
          exec (.drainReadResponse .error) s =
            .next (nextEntry i
              (placeFreed
                { errorReported f s with
                  inFlight := none
                  batch.slots := s.batch.slots.set i b
                  buf.entries := s.buf.entries.filter fun x => !(x.word == e.word && x.slot == i) }))))
    ∧ ∀ (f : InFlight) (r : ReadReply) (s : State),
        s.inFlight = some f → f.req.kind = .drainRead → f.cutOff = true →
        exec (.drainReadResponse r) s = .next { s with inFlight := none }

/-- The completion of a batch in every part state: the drain time is set, the record joins the queue or is dropped with
LOST and counted, the batch is counted, the slot is FREE, what the freed slot brings about happens, the engine is idle,
and a drain-set end or horizon that names the batch becomes none (R110, R136). The record is built from the slot record,
field by field (R135, Table 8-1). What a freed slot brings about: in
QUIESCING the last one makes the part PASS and raises QUIESCED, and a write stalled for PASS is asked for as a plain write
of all its enabled lanes, its stall ended (R171, R70); in ENGAGED a waiting close store takes it and goes on to its memory
write (R88, R129), else FLUSH's pending close takes it and forces the batch it closes (R128), else an owed force-close is
made when the open batch is alone in flight (R125), else nothing; that one of the three at most takes it, in this order,
is log entry 23's deduction. -/
def Obligations.BatchCompletesAndQuiescingEnds : Prop :=
  (∀ b : Slot,
     b.toRec =
       { memErrors := b.memErrors, sequence := b.sequence, tag := b.tag, torn := b.torn, forced := b.forced,
         memErr := b.memErr, wasHeld := b.wasHeld, forceClosed := b.forceClosed, commandClosed := b.commandClosed,
         entriesDrained := b.entriesDrained, rmwCount := b.rmwCount, frameAtStart := b.frameAtStart,
         drainTime := b.drainTime })
    ∧ (∀ s : State,
         (allFree s = true ↔ ∀ i, slotState i s = .free)
           ∧ (forceCloseDue s = true ↔
               s.stall.active = true ∧ s.stall.forceCloseOwed = true ∧ openSlot s ≠ none ∧ oldestNonOpen s = none))
    ∧ (∀ (i : SlotIx) (s : State),
     let b := { slotOf i s with drainTime := s.drain.ticks }
     let room : Bool := decide (s.recs.records.length < 4)
     let freed : State := { s with
       batch.slots := s.batch.slots.set i { b with state := .free }
       recs := if room then { s.recs with
           records := s.recs.records ++ [b.toRec]
           writer := if s.recs.writer = .idle ∧ (s.recs.prod - s.recs.cons).toNat < s.cfg.ringSize
             then .requested .word1 else s.recs.writer }
         else { s.recs with lost := if s.recs.lost < 255 then s.recs.lost + 1 else s.recs.lost }
       ev.flags := if room then s.ev.flags else s.ev.flags ||| 0x10
       ev.counters.recordsLost := if room then s.ev.counters.recordsLost else countUp s.ev.counters.recordsLost
       ev.counters.batchesDrained := countUp s.ev.counters.batchesDrained }
     let t := slotFreed freed
     let cleared (e : Option Half) : Option Half := if e = some b.sequence then none else e
     completeBatch i s =
       { t with drain := { t.drain with
           current := none, entry := none, access := .none, readData := none,
           setEnd := cleared t.drain.setEnd, horizon := cleared t.drain.horizon } })
    ∧ (∀ s : State, s.part = .quiescing →
         (allFree s = false → slotFreed s = s)
           ∧ (allFree s = true → (∀ w, s.sys = .write w → w.phase ≠ .waitPass) →
               slotFreed s = { s with part := .pass, ev.flags := s.ev.flags ||| 0x80 })
           ∧ ∀ w, allFree s = true → s.sys = .write w → w.phase = .waitPass → w.mark = none →
               slotFreed s =
                 { s with
                   part := .pass
                   ev.flags := s.ev.flags ||| 0x80
                   stall.active := false
                   stall.forceCloseOwed := false
                   sys := .write { w with classes := plainClasses w.lanes, xf := plainTransform w.lanes w.data,
                                          reserved := false, readData := none, plain := true, leftEngaged := false,
                                          phase := .writeRequested } })
    ∧ ∀ s : State, s.part = .engaged →
        ((∀ w, s.sys = .write w → w.phase ≠ .waitSlot) → s.batch.pendingClose = false → forceCloseDue s = false →
            slotFreed s = s)
          ∧ ∀ i j : SlotIx, openSlot s = some i → freeSlot s = some j →
              let q := (slotOf i s).sequence
              let older (h : Half) : Prop := (s.batch.seqCounter + 1 - q).toNat < (s.batch.seqCounter + 1 - h).toNat
              let reopened (closed : Slot) : Four Slot := (s.batch.slots.set i closed).set j (freshSlot s.batch.seqCounter)
              (∀ w, s.sys = .write w → w.phase = .waitSlot →
                  w.needsDestination = false → w.lanesToHold = 0#4 → w.immediateLanes ≠ 0#4 →
                  let hold : Bool := laneByte w.data 1 != 0#8
                  slotFreed s =
                    { s with
                      batch.slots := reopened
                        { slotOf i s with state := if hold then .held else .closed, tag := laneByte w.data 0,
                                          wasHeld := hold, closeFrame := s.sync.frameCounter }
                      batch.seqCounter := s.batch.seqCounter + 1
                      stall.active := false
                      stall.forceCloseOwed := false
                      sys := .write { w with phase := .writeRequested } })
                ∧ ((∀ w, s.sys = .write w → w.phase ≠ .waitSlot) → (∀ h, s.drain.horizon = some h → older h) →
                    (s.batch.pendingClose = true →
                        slotFreed s =
                          { s with
                            batch.slots := reopened
                              { slotOf i s with state := .closed, tag := 0, commandClosed := true,
                                                closeFrame := s.sync.frameCounter }
                            batch.seqCounter := s.batch.seqCounter + 1
                            batch.pendingClose := false
                            drain.horizon := some q
                            stall.forceCloseOwed := false })
                      ∧ (s.batch.pendingClose = false → s.stall.active = true → s.stall.forceCloseOwed = true →
                          oldestNonOpen s = none →
                          slotFreed s =
                            { s with
                              batch.slots := reopened
                                { slotOf i s with state := .closed, tag := 0, forceClosed := true,
                                                  closeFrame := s.sync.frameCounter }
                              batch.seqCounter := s.batch.seqCounter + 1
                              drain.horizon := some q
                              stall.forceCloseOwed := false }))
end

