-- ==== Sys2Proof/Laws/State.lean ====
section
/-! SUPPORT. One lemma per update of the state: the fields it leaves, and the field it sets. Each is a conjunction of
equations, so that simp takes it as one rewrite rule per field. -/

namespace Sys2Proof.Machine

/-! ### Four -/

@[simp] theorem Four.get_set_same {α : Type} (f : Four α) (i : Fin 4) (v : α) : (f.set i v).get i = v := by
  match i with
  | 0 => rfl
  | 1 => rfl
  | 2 => rfl
  | 3 => rfl

theorem Four.get_set_ne {α : Type} (f : Four α) {i j : Fin 4} (v : α) (h : j ≠ i) : (f.set i v).get j = f.get j := by
  match i, j with
  | 0, 0 => exact absurd rfl h
  | 0, 1 => rfl
  | 0, 2 => rfl
  | 0, 3 => rfl
  | 1, 0 => rfl
  | 1, 1 => exact absurd rfl h
  | 1, 2 => rfl
  | 1, 3 => rfl
  | 2, 0 => rfl
  | 2, 1 => rfl
  | 2, 2 => exact absurd rfl h
  | 2, 3 => rfl
  | 3, 0 => rfl
  | 3, 1 => rfl
  | 3, 2 => rfl
  | 3, 3 => exact absurd rfl h

@[simp] theorem Four.get_map {α β : Type} (g : α → β) (f : Four α) (i : Fin 4) : (f.map g).get i = g (f.get i) := by
  match i with
  | 0 => rfl
  | 1 => rfl
  | 2 => rfl
  | 3 => rfl

@[simp] theorem Four.get_of {α : Type} (g : Fin 4 → α) (i : Fin 4) : (Four.of g).get i = g i := by
  match i with
  | 0 => rfl
  | 1 => rfl
  | 2 => rfl
  | 3 => rfl

@[simp] theorem raise_fields (e : Event) (s : State) :
    (raise e s).resetn = s.resetn ∧ (raise e s).blank = s.blank ∧ (raise e s).cfg = s.cfg
      ∧ (raise e s).part = s.part ∧ (raise e s).setup = s.setup ∧ (raise e s).buf = s.buf
      ∧ (raise e s).batch = s.batch ∧ (raise e s).sync = s.sync ∧ (raise e s).drain = s.drain
      ∧ (raise e s).stall = s.stall ∧ (raise e s).recs = s.recs ∧ (raise e s).sys = s.sys
      ∧ (raise e s).sysAnswer = s.sysAnswer ∧ (raise e s).refresh = s.refresh
      ∧ (raise e s).refreshAnswer = s.refreshAnswer ∧ (raise e s).waits = s.waits
      ∧ (raise e s).inFlight = s.inFlight ∧ (raise e s).pending = s.pending
      ∧ (raise e s).ev.flags = s.ev.flags ||| e.bit ∧ (raise e s).ev.counters = s.ev.counters
      ∧ (raise e s).ev.errinfo = s.ev.errinfo := by
  refine ⟨rfl, rfl, rfl, rfl, rfl, rfl, rfl, rfl, rfl, rfl, rfl, rfl, rfl, rfl, rfl, rfl, rfl, rfl, rfl, rfl, rfl⟩

@[simp] theorem modCounters_fields (g : Counters → Counters) (s : State) :
    (modCounters g s).resetn = s.resetn ∧ (modCounters g s).blank = s.blank ∧ (modCounters g s).cfg = s.cfg
      ∧ (modCounters g s).part = s.part ∧ (modCounters g s).setup = s.setup ∧ (modCounters g s).buf = s.buf
      ∧ (modCounters g s).batch = s.batch ∧ (modCounters g s).sync = s.sync
      ∧ (modCounters g s).drain = s.drain ∧ (modCounters g s).stall = s.stall
      ∧ (modCounters g s).recs = s.recs ∧ (modCounters g s).sys = s.sys
      ∧ (modCounters g s).sysAnswer = s.sysAnswer ∧ (modCounters g s).refresh = s.refresh
      ∧ (modCounters g s).refreshAnswer = s.refreshAnswer ∧ (modCounters g s).waits = s.waits
      ∧ (modCounters g s).inFlight = s.inFlight ∧ (modCounters g s).pending = s.pending
      ∧ (modCounters g s).ev.flags = s.ev.flags ∧ (modCounters g s).ev.counters = g s.ev.counters
      ∧ (modCounters g s).ev.errinfo = s.ev.errinfo := by
  refine ⟨rfl, rfl, rfl, rfl, rfl, rfl, rfl, rfl, rfl, rfl, rfl, rfl, rfl, rfl, rfl, rfl, rfl, rfl, rfl, rfl, rfl⟩

@[simp] theorem setSlot_fields (i : SlotIx) (v : Slot) (s : State) :
    (setSlot i v s).resetn = s.resetn ∧ (setSlot i v s).blank = s.blank ∧ (setSlot i v s).cfg = s.cfg
      ∧ (setSlot i v s).part = s.part ∧ (setSlot i v s).setup = s.setup ∧ (setSlot i v s).ev = s.ev
      ∧ (setSlot i v s).buf = s.buf ∧ (setSlot i v s).sync = s.sync ∧ (setSlot i v s).drain = s.drain
      ∧ (setSlot i v s).stall = s.stall ∧ (setSlot i v s).recs = s.recs ∧ (setSlot i v s).sys = s.sys
      ∧ (setSlot i v s).sysAnswer = s.sysAnswer ∧ (setSlot i v s).refresh = s.refresh
      ∧ (setSlot i v s).refreshAnswer = s.refreshAnswer ∧ (setSlot i v s).waits = s.waits
      ∧ (setSlot i v s).inFlight = s.inFlight ∧ (setSlot i v s).pending = s.pending
      ∧ (setSlot i v s).batch.slots = s.batch.slots.set i v
      ∧ (setSlot i v s).batch.seqCounter = s.batch.seqCounter
      ∧ (setSlot i v s).batch.pendingClose = s.batch.pendingClose := by
  refine ⟨rfl, rfl, rfl, rfl, rfl, rfl, rfl, rfl, rfl, rfl, rfl, rfl, rfl, rfl, rfl, rfl, rfl, rfl, rfl, rfl, rfl⟩

@[simp] theorem modSlot_fields (i : SlotIx) (g : Slot → Slot) (s : State) :
    (modSlot i g s).resetn = s.resetn ∧ (modSlot i g s).blank = s.blank ∧ (modSlot i g s).cfg = s.cfg
      ∧ (modSlot i g s).part = s.part ∧ (modSlot i g s).setup = s.setup ∧ (modSlot i g s).ev = s.ev
      ∧ (modSlot i g s).buf = s.buf ∧ (modSlot i g s).sync = s.sync ∧ (modSlot i g s).drain = s.drain
      ∧ (modSlot i g s).stall = s.stall ∧ (modSlot i g s).recs = s.recs ∧ (modSlot i g s).sys = s.sys
      ∧ (modSlot i g s).sysAnswer = s.sysAnswer ∧ (modSlot i g s).refresh = s.refresh
      ∧ (modSlot i g s).refreshAnswer = s.refreshAnswer ∧ (modSlot i g s).waits = s.waits
      ∧ (modSlot i g s).inFlight = s.inFlight ∧ (modSlot i g s).pending = s.pending
      ∧ (modSlot i g s).batch.slots = s.batch.slots.set i (g (slotOf i s))
      ∧ (modSlot i g s).batch.seqCounter = s.batch.seqCounter
      ∧ (modSlot i g s).batch.pendingClose = s.batch.pendingClose := by
  refine ⟨rfl, rfl, rfl, rfl, rfl, rfl, rfl, rfl, rfl, rfl, rfl, rfl, rfl, rfl, rfl, rfl, rfl, rfl, rfl, rfl, rfl⟩

@[simp] theorem setWrite_fields (w : WriteJob) (s : State) :
    (setWrite w s).resetn = s.resetn ∧ (setWrite w s).blank = s.blank ∧ (setWrite w s).cfg = s.cfg
      ∧ (setWrite w s).part = s.part ∧ (setWrite w s).setup = s.setup ∧ (setWrite w s).ev = s.ev
      ∧ (setWrite w s).buf = s.buf ∧ (setWrite w s).batch = s.batch ∧ (setWrite w s).sync = s.sync
      ∧ (setWrite w s).drain = s.drain ∧ (setWrite w s).stall = s.stall ∧ (setWrite w s).recs = s.recs
      ∧ (setWrite w s).sysAnswer = s.sysAnswer ∧ (setWrite w s).refresh = s.refresh
      ∧ (setWrite w s).refreshAnswer = s.refreshAnswer ∧ (setWrite w s).waits = s.waits
      ∧ (setWrite w s).inFlight = s.inFlight ∧ (setWrite w s).pending = s.pending
      ∧ (setWrite w s).sys = .write w := by
  refine ⟨rfl, rfl, rfl, rfl, rfl, rfl, rfl, rfl, rfl, rfl, rfl, rfl, rfl, rfl, rfl, rfl, rfl, rfl, rfl⟩

@[simp] theorem answerSystem_fields (a : Answer) (s : State) :
    (answerSystem a s).resetn = s.resetn ∧ (answerSystem a s).blank = s.blank ∧ (answerSystem a s).cfg = s.cfg
      ∧ (answerSystem a s).part = s.part ∧ (answerSystem a s).setup = s.setup ∧ (answerSystem a s).ev = s.ev
      ∧ (answerSystem a s).buf = s.buf ∧ (answerSystem a s).batch = s.batch ∧ (answerSystem a s).sync = s.sync
      ∧ (answerSystem a s).drain = s.drain ∧ (answerSystem a s).stall = s.stall
      ∧ (answerSystem a s).recs = s.recs ∧ (answerSystem a s).refresh = s.refresh
      ∧ (answerSystem a s).refreshAnswer = s.refreshAnswer ∧ (answerSystem a s).waits = s.waits
      ∧ (answerSystem a s).inFlight = s.inFlight ∧ (answerSystem a s).pending = s.pending
      ∧ (answerSystem a s).sys = .idle ∧ (answerSystem a s).sysAnswer = some a := by
  refine ⟨rfl, rfl, rfl, rfl, rfl, rfl, rfl, rfl, rfl, rfl, rfl, rfl, rfl, rfl, rfl, rfl, rfl, rfl, rfl⟩

@[simp] theorem answerRefresh_fields (a : Answer) (s : State) :
    (answerRefresh a s).resetn = s.resetn ∧ (answerRefresh a s).blank = s.blank
      ∧ (answerRefresh a s).cfg = s.cfg ∧ (answerRefresh a s).part = s.part
      ∧ (answerRefresh a s).setup = s.setup ∧ (answerRefresh a s).ev = s.ev ∧ (answerRefresh a s).buf = s.buf
      ∧ (answerRefresh a s).batch = s.batch ∧ (answerRefresh a s).sync = s.sync
      ∧ (answerRefresh a s).drain = s.drain ∧ (answerRefresh a s).stall = s.stall
      ∧ (answerRefresh a s).recs = s.recs ∧ (answerRefresh a s).sys = s.sys
      ∧ (answerRefresh a s).sysAnswer = s.sysAnswer ∧ (answerRefresh a s).waits = s.waits
      ∧ (answerRefresh a s).inFlight = s.inFlight ∧ (answerRefresh a s).pending = s.pending
      ∧ (answerRefresh a s).refresh = .idle ∧ (answerRefresh a s).refreshAnswer = some a := by
  refine ⟨rfl, rfl, rfl, rfl, rfl, rfl, rfl, rfl, rfl, rfl, rfl, rfl, rfl, rfl, rfl, rfl, rfl, rfl, rfl⟩

@[simp] theorem beginStall_fields (c : StallCause) (s : State) :
    (beginStall c s).resetn = s.resetn ∧ (beginStall c s).blank = s.blank ∧ (beginStall c s).cfg = s.cfg
      ∧ (beginStall c s).part = s.part ∧ (beginStall c s).setup = s.setup ∧ (beginStall c s).buf = s.buf
      ∧ (beginStall c s).batch = s.batch ∧ (beginStall c s).sync = s.sync ∧ (beginStall c s).drain = s.drain
      ∧ (beginStall c s).recs = s.recs ∧ (beginStall c s).sys = s.sys
      ∧ (beginStall c s).sysAnswer = s.sysAnswer ∧ (beginStall c s).refresh = s.refresh
      ∧ (beginStall c s).refreshAnswer = s.refreshAnswer ∧ (beginStall c s).waits = s.waits
      ∧ (beginStall c s).inFlight = s.inFlight ∧ (beginStall c s).pending = s.pending
      ∧ (beginStall c s).ev.flags = s.ev.flags ∧ (beginStall c s).ev.errinfo = s.ev.errinfo
      ∧ (beginStall c s).ev.counters = s.ev.counters.addStall
      ∧ (beginStall c s).stall = ⟨true, c, s.cfg.stall, 0, false, false⟩ := by
  refine ⟨rfl, rfl, rfl, rfl, rfl, rfl, rfl, rfl, rfl, rfl, rfl, rfl, rfl, rfl, rfl, rfl, rfl, rfl, rfl, rfl, rfl⟩

@[simp] theorem endStall_fields (s : State) :
    (endStall s).resetn = s.resetn ∧ (endStall s).blank = s.blank ∧ (endStall s).cfg = s.cfg
      ∧ (endStall s).part = s.part ∧ (endStall s).setup = s.setup ∧ (endStall s).ev = s.ev
      ∧ (endStall s).buf = s.buf ∧ (endStall s).batch = s.batch ∧ (endStall s).sync = s.sync
      ∧ (endStall s).drain = s.drain ∧ (endStall s).recs = s.recs ∧ (endStall s).sys = s.sys
      ∧ (endStall s).sysAnswer = s.sysAnswer ∧ (endStall s).refresh = s.refresh
      ∧ (endStall s).refreshAnswer = s.refreshAnswer ∧ (endStall s).waits = s.waits
      ∧ (endStall s).inFlight = s.inFlight ∧ (endStall s).pending = s.pending
      ∧ (endStall s).stall.active = false ∧ (endStall s).stall.forceCloseOwed = false
      ∧ (endStall s).stall.expired = s.stall.expired := by
  refine ⟨rfl, rfl, rfl, rfl, rfl, rfl, rfl, rfl, rfl, rfl, rfl, rfl, rfl, rfl, rfl, rfl, rfl, rfl, rfl, rfl, rfl⟩

@[simp] theorem addEntry_fields (e : Entry) (s : State) :
    (addEntry e s).resetn = s.resetn ∧ (addEntry e s).blank = s.blank ∧ (addEntry e s).cfg = s.cfg
      ∧ (addEntry e s).part = s.part ∧ (addEntry e s).setup = s.setup ∧ (addEntry e s).ev = s.ev
      ∧ (addEntry e s).batch = s.batch ∧ (addEntry e s).sync = s.sync ∧ (addEntry e s).drain = s.drain
      ∧ (addEntry e s).stall = s.stall ∧ (addEntry e s).recs = s.recs ∧ (addEntry e s).sys = s.sys
      ∧ (addEntry e s).sysAnswer = s.sysAnswer ∧ (addEntry e s).refresh = s.refresh
      ∧ (addEntry e s).refreshAnswer = s.refreshAnswer ∧ (addEntry e s).waits = s.waits
      ∧ (addEntry e s).inFlight = s.inFlight ∧ (addEntry e s).pending = s.pending
      ∧ (addEntry e s).buf.entries = s.buf.entries ++ [e]
      ∧ (addEntry e s).buf.highWater = max s.buf.highWater (s.buf.entries ++ [e]).length := by
  refine ⟨rfl, rfl, rfl, rfl, rfl, rfl, rfl, rfl, rfl, rfl, rfl, rfl, rfl, rfl, rfl, rfl, rfl, rfl, rfl, rfl⟩

@[simp] theorem composeEntry_fields (word : WordAddr) (i : SlotIx) (lanes : LaneMask) (t : Transform) (s : State) :
    (composeEntry word i lanes t s).resetn = s.resetn ∧ (composeEntry word i lanes t s).blank = s.blank
      ∧ (composeEntry word i lanes t s).cfg = s.cfg ∧ (composeEntry word i lanes t s).part = s.part
      ∧ (composeEntry word i lanes t s).setup = s.setup ∧ (composeEntry word i lanes t s).ev = s.ev
      ∧ (composeEntry word i lanes t s).batch = s.batch ∧ (composeEntry word i lanes t s).sync = s.sync
      ∧ (composeEntry word i lanes t s).drain = s.drain ∧ (composeEntry word i lanes t s).stall = s.stall
      ∧ (composeEntry word i lanes t s).recs = s.recs ∧ (composeEntry word i lanes t s).sys = s.sys
      ∧ (composeEntry word i lanes t s).sysAnswer = s.sysAnswer
      ∧ (composeEntry word i lanes t s).refresh = s.refresh
      ∧ (composeEntry word i lanes t s).refreshAnswer = s.refreshAnswer
      ∧ (composeEntry word i lanes t s).waits = s.waits
      ∧ (composeEntry word i lanes t s).inFlight = s.inFlight
      ∧ (composeEntry word i lanes t s).pending = s.pending
      ∧ (composeEntry word i lanes t s).buf.highWater = s.buf.highWater := by
  refine ⟨rfl, rfl, rfl, rfl, rfl, rfl, rfl, rfl, rfl, rfl, rfl, rfl, rfl, rfl, rfl, rfl, rfl, rfl, rfl⟩

@[simp] theorem removeEntry_fields (word : WordAddr) (i : SlotIx) (s : State) :
    (removeEntry word i s).resetn = s.resetn ∧ (removeEntry word i s).blank = s.blank
      ∧ (removeEntry word i s).cfg = s.cfg ∧ (removeEntry word i s).part = s.part
      ∧ (removeEntry word i s).setup = s.setup ∧ (removeEntry word i s).ev = s.ev
      ∧ (removeEntry word i s).batch = s.batch ∧ (removeEntry word i s).sync = s.sync
      ∧ (removeEntry word i s).drain = s.drain ∧ (removeEntry word i s).stall = s.stall
      ∧ (removeEntry word i s).recs = s.recs ∧ (removeEntry word i s).sys = s.sys
      ∧ (removeEntry word i s).sysAnswer = s.sysAnswer ∧ (removeEntry word i s).refresh = s.refresh
      ∧ (removeEntry word i s).refreshAnswer = s.refreshAnswer ∧ (removeEntry word i s).waits = s.waits
      ∧ (removeEntry word i s).inFlight = s.inFlight ∧ (removeEntry word i s).pending = s.pending
      ∧ (removeEntry word i s).buf.highWater = s.buf.highWater := by
  refine ⟨rfl, rfl, rfl, rfl, rfl, rfl, rfl, rfl, rfl, rfl, rfl, rfl, rfl, rfl, rfl, rfl, rfl, rfl, rfl⟩

@[simp] theorem removeSlotEntries_fields (i : SlotIx) (s : State) :
    (removeSlotEntries i s).resetn = s.resetn ∧ (removeSlotEntries i s).blank = s.blank
      ∧ (removeSlotEntries i s).cfg = s.cfg ∧ (removeSlotEntries i s).part = s.part
      ∧ (removeSlotEntries i s).setup = s.setup ∧ (removeSlotEntries i s).ev = s.ev
      ∧ (removeSlotEntries i s).batch = s.batch ∧ (removeSlotEntries i s).sync = s.sync
      ∧ (removeSlotEntries i s).drain = s.drain ∧ (removeSlotEntries i s).stall = s.stall
      ∧ (removeSlotEntries i s).recs = s.recs ∧ (removeSlotEntries i s).sys = s.sys
      ∧ (removeSlotEntries i s).sysAnswer = s.sysAnswer ∧ (removeSlotEntries i s).refresh = s.refresh
      ∧ (removeSlotEntries i s).refreshAnswer = s.refreshAnswer ∧ (removeSlotEntries i s).waits = s.waits
      ∧ (removeSlotEntries i s).inFlight = s.inFlight ∧ (removeSlotEntries i s).pending = s.pending
      ∧ (removeSlotEntries i s).buf.highWater = s.buf.highWater := by
  refine ⟨rfl, rfl, rfl, rfl, rfl, rfl, rfl, rfl, rfl, rfl, rfl, rfl, rfl, rfl, rfl, rfl, rfl, rfl, rfl⟩

@[simp] theorem openBatch_fields (i : SlotIx) (s : State) :
    (openBatch i s).resetn = s.resetn ∧ (openBatch i s).blank = s.blank ∧ (openBatch i s).cfg = s.cfg
      ∧ (openBatch i s).part = s.part ∧ (openBatch i s).setup = s.setup ∧ (openBatch i s).ev = s.ev
      ∧ (openBatch i s).buf = s.buf ∧ (openBatch i s).sync = s.sync ∧ (openBatch i s).drain = s.drain
      ∧ (openBatch i s).stall = s.stall ∧ (openBatch i s).recs = s.recs ∧ (openBatch i s).sys = s.sys
      ∧ (openBatch i s).sysAnswer = s.sysAnswer ∧ (openBatch i s).refresh = s.refresh
      ∧ (openBatch i s).refreshAnswer = s.refreshAnswer ∧ (openBatch i s).waits = s.waits
      ∧ (openBatch i s).inFlight = s.inFlight ∧ (openBatch i s).pending = s.pending
      ∧ (openBatch i s).batch.seqCounter = s.batch.seqCounter + 1
      ∧ (openBatch i s).batch.pendingClose = s.batch.pendingClose := by
  refine ⟨rfl, rfl, rfl, rfl, rfl, rfl, rfl, rfl, rfl, rfl, rfl, rfl, rfl, rfl, rfl, rfl, rfl, rfl, rfl, rfl⟩

@[simp] theorem closeSlot_fields (r : CloseReason) (i : SlotIx) (s : State) :
    (closeSlot r i s).resetn = s.resetn ∧ (closeSlot r i s).blank = s.blank ∧ (closeSlot r i s).cfg = s.cfg
      ∧ (closeSlot r i s).part = s.part ∧ (closeSlot r i s).setup = s.setup ∧ (closeSlot r i s).ev = s.ev
      ∧ (closeSlot r i s).buf = s.buf ∧ (closeSlot r i s).sync = s.sync ∧ (closeSlot r i s).drain = s.drain
      ∧ (closeSlot r i s).stall = s.stall ∧ (closeSlot r i s).recs = s.recs ∧ (closeSlot r i s).sys = s.sys
      ∧ (closeSlot r i s).sysAnswer = s.sysAnswer ∧ (closeSlot r i s).refresh = s.refresh
      ∧ (closeSlot r i s).refreshAnswer = s.refreshAnswer ∧ (closeSlot r i s).waits = s.waits
      ∧ (closeSlot r i s).inFlight = s.inFlight ∧ (closeSlot r i s).pending = s.pending
      ∧ (closeSlot r i s).batch.seqCounter = s.batch.seqCounter
      ∧ (closeSlot r i s).batch.pendingClose = s.batch.pendingClose := by
  refine ⟨rfl, rfl, rfl, rfl, rfl, rfl, rfl, rfl, rfl, rfl, rfl, rfl, rfl, rfl, rfl, rfl, rfl, rfl, rfl, rfl⟩

@[simp] theorem releaseAll_fields (s : State) :
    (releaseAll s).resetn = s.resetn ∧ (releaseAll s).blank = s.blank ∧ (releaseAll s).cfg = s.cfg
      ∧ (releaseAll s).part = s.part ∧ (releaseAll s).setup = s.setup ∧ (releaseAll s).ev = s.ev
      ∧ (releaseAll s).buf = s.buf ∧ (releaseAll s).sync = s.sync ∧ (releaseAll s).drain = s.drain
      ∧ (releaseAll s).stall = s.stall ∧ (releaseAll s).recs = s.recs ∧ (releaseAll s).sys = s.sys
      ∧ (releaseAll s).sysAnswer = s.sysAnswer ∧ (releaseAll s).refresh = s.refresh
      ∧ (releaseAll s).refreshAnswer = s.refreshAnswer ∧ (releaseAll s).waits = s.waits
      ∧ (releaseAll s).inFlight = s.inFlight ∧ (releaseAll s).pending = s.pending
      ∧ (releaseAll s).batch.slots = s.batch.slots.map Slot.letGo
      ∧ (releaseAll s).batch.seqCounter = s.batch.seqCounter
      ∧ (releaseAll s).batch.pendingClose = s.batch.pendingClose := by
  refine ⟨rfl, rfl, rfl, rfl, rfl, rfl, rfl, rfl, rfl, rfl, rfl, rfl, rfl, rfl, rfl, rfl, rfl, rfl, rfl, rfl, rfl⟩

@[simp] theorem engineIdle_fields (q : Half) (s : State) :
    (engineIdle q s).resetn = s.resetn ∧ (engineIdle q s).blank = s.blank ∧ (engineIdle q s).cfg = s.cfg
      ∧ (engineIdle q s).part = s.part ∧ (engineIdle q s).setup = s.setup ∧ (engineIdle q s).ev = s.ev
      ∧ (engineIdle q s).buf = s.buf ∧ (engineIdle q s).batch = s.batch ∧ (engineIdle q s).sync = s.sync
      ∧ (engineIdle q s).stall = s.stall ∧ (engineIdle q s).recs = s.recs ∧ (engineIdle q s).sys = s.sys
      ∧ (engineIdle q s).sysAnswer = s.sysAnswer ∧ (engineIdle q s).refresh = s.refresh
      ∧ (engineIdle q s).refreshAnswer = s.refreshAnswer ∧ (engineIdle q s).waits = s.waits
      ∧ (engineIdle q s).inFlight = s.inFlight ∧ (engineIdle q s).pending = s.pending
      ∧ (engineIdle q s).drain.current = none ∧ (engineIdle q s).drain.entry = none
      ∧ (engineIdle q s).drain.access = .none := by
  refine ⟨rfl, rfl, rfl, rfl, rfl, rfl, rfl, rfl, rfl, rfl, rfl, rfl, rfl, rfl, rfl, rfl, rfl, rfl, rfl, rfl, rfl⟩

@[simp] theorem putInFlight_fields (q : MemRequest) (s : State) :
    (putInFlight q s).resetn = s.resetn ∧ (putInFlight q s).blank = s.blank ∧ (putInFlight q s).cfg = s.cfg
      ∧ (putInFlight q s).part = s.part ∧ (putInFlight q s).setup = s.setup ∧ (putInFlight q s).ev = s.ev
      ∧ (putInFlight q s).buf = s.buf ∧ (putInFlight q s).batch = s.batch ∧ (putInFlight q s).sync = s.sync
      ∧ (putInFlight q s).drain = s.drain ∧ (putInFlight q s).stall = s.stall
      ∧ (putInFlight q s).recs = s.recs ∧ (putInFlight q s).sys = s.sys
      ∧ (putInFlight q s).sysAnswer = s.sysAnswer ∧ (putInFlight q s).refresh = s.refresh
      ∧ (putInFlight q s).refreshAnswer = s.refreshAnswer ∧ (putInFlight q s).waits = s.waits
      ∧ (putInFlight q s).pending = s.pending ∧ (putInFlight q s).inFlight = some ⟨q, !s.resetn⟩ := by
  refine ⟨rfl, rfl, rfl, rfl, rfl, rfl, rfl, rfl, rfl, rfl, rfl, rfl, rfl, rfl, rfl, rfl, rfl, rfl, rfl⟩

@[simp] theorem grantWord0_fields (s : State) :
    (grantWord0 s).resetn = s.resetn ∧ (grantWord0 s).blank = s.blank ∧ (grantWord0 s).cfg = s.cfg
      ∧ (grantWord0 s).part = s.part ∧ (grantWord0 s).setup = s.setup ∧ (grantWord0 s).buf = s.buf
      ∧ (grantWord0 s).batch = s.batch ∧ (grantWord0 s).sync = s.sync ∧ (grantWord0 s).drain = s.drain
      ∧ (grantWord0 s).stall = s.stall ∧ (grantWord0 s).sys = s.sys ∧ (grantWord0 s).sysAnswer = s.sysAnswer
      ∧ (grantWord0 s).refresh = s.refresh ∧ (grantWord0 s).refreshAnswer = s.refreshAnswer
      ∧ (grantWord0 s).waits = s.waits ∧ (grantWord0 s).inFlight = s.inFlight
      ∧ (grantWord0 s).pending = s.pending ∧ (grantWord0 s).recs.prod = s.recs.prod + 1
      ∧ (grantWord0 s).recs.lost = 0 ∧ (grantWord0 s).recs.records = s.recs.records.tail
      ∧ (grantWord0 s).recs.cons = s.recs.cons ∧ (grantWord0 s).recs.writer = s.recs.writer := by
  refine ⟨rfl, rfl, rfl, rfl, rfl, rfl, rfl, rfl, rfl, rfl, rfl, rfl, rfl, rfl, rfl, rfl, rfl, rfl, rfl, rfl, rfl, rfl⟩

@[simp] theorem setWindow_fields (i : Fin 16) (w : Window) (s : State) :
    (setWindow i w s).resetn = s.resetn ∧ (setWindow i w s).blank = s.blank ∧ (setWindow i w s).part = s.part
      ∧ (setWindow i w s).setup = s.setup ∧ (setWindow i w s).ev = s.ev ∧ (setWindow i w s).buf = s.buf
      ∧ (setWindow i w s).batch = s.batch ∧ (setWindow i w s).sync = s.sync
      ∧ (setWindow i w s).drain = s.drain ∧ (setWindow i w s).stall = s.stall
      ∧ (setWindow i w s).recs = s.recs ∧ (setWindow i w s).sys = s.sys
      ∧ (setWindow i w s).sysAnswer = s.sysAnswer ∧ (setWindow i w s).refresh = s.refresh
      ∧ (setWindow i w s).refreshAnswer = s.refreshAnswer ∧ (setWindow i w s).waits = s.waits
      ∧ (setWindow i w s).inFlight = s.inFlight ∧ (setWindow i w s).pending = s.pending
      ∧ (setWindow i w s).cfg = { s.cfg with windows := s.cfg.windows.set i w } := by
  refine ⟨rfl, rfl, rfl, rfl, rfl, rfl, rfl, rfl, rfl, rfl, rfl, rfl, rfl, rfl, rfl, rfl, rfl, rfl, rfl⟩

@[simp] theorem clearRuntime_fields (c : Settings) (s : State) :
    (clearRuntime c s).resetn = s.resetn ∧ (clearRuntime c s).blank = s.blank
      ∧ (clearRuntime c s).setup = s.setup ∧ (clearRuntime c s).sysAnswer = s.sysAnswer
      ∧ (clearRuntime c s).refresh = s.refresh ∧ (clearRuntime c s).refreshAnswer = s.refreshAnswer
      ∧ (clearRuntime c s).pending = s.pending ∧ (clearRuntime c s).cfg = c ∧ (clearRuntime c s).part = .pass
      ∧ (clearRuntime c s).buf = ⟨[], 0⟩ ∧ (clearRuntime c s).batch = BatchQueue.reset
      ∧ (clearRuntime c s).drain = DrainEngine.reset ∧ (clearRuntime c s).stall = Stall.reset
      ∧ (clearRuntime c s).recs = RecordUnit.reset ∧ (clearRuntime c s).sys = s.sys.afterReset
      ∧ (clearRuntime c s).waits = Waits.zero := by
  refine ⟨rfl, rfl, rfl, rfl, rfl, rfl, rfl, rfl, rfl, rfl, rfl, rfl, rfl, rfl, rfl, rfl⟩

@[simp] theorem slotOf_setSlot_same (i : SlotIx) (v : Slot) (s : State) : slotOf i (setSlot i v s) = v :=
  Four.get_set_same _ _ _

theorem slotOf_setSlot_ne {i j : SlotIx} (v : Slot) (s : State) (h : j ≠ i) :
    slotOf j (setSlot i v s) = slotOf j s := Four.get_set_ne _ _ h

@[simp] theorem slotOf_modSlot_same (i : SlotIx) (g : Slot → Slot) (s : State) :
    slotOf i (modSlot i g s) = g (slotOf i s) := Four.get_set_same _ _ _

theorem slotOf_modSlot_ne {i j : SlotIx} (g : Slot → Slot) (s : State) (h : j ≠ i) :
    slotOf j (modSlot i g s) = slotOf j s := Four.get_set_ne _ _ h

theorem slotOf_openBatch_same (i : SlotIx) (s : State) :
    slotOf i (openBatch i s) = { Slot.cleared with state := .opened, sequence := s.batch.seqCounter } :=
  Four.get_set_same _ _ _

theorem slotOf_openBatch_ne {i j : SlotIx} (s : State) (h : j ≠ i) : slotOf j (openBatch i s) = slotOf j s :=
  Four.get_set_ne _ _ h

@[simp] theorem slotOf_releaseAll (i : SlotIx) (s : State) : slotOf i (releaseAll s) = (slotOf i s).letGo :=
  Four.get_map _ _ _

end Sys2Proof.Machine
end

