-- ==== Sys2Proof/Laws/Outer.lean ====
section
/-! SUPPORT. What the operations inside a command never touch: the pins, the configuration, the setup port, the sync
monitor, the refresh port, the wait counts, the request in flight and the queue. One lemma per shared operation; a later
proof cites it instead of unfolding the operation. -/

namespace Sys2Proof.Machine

/-- The part of the state that only pin events, setup transactions, grants and responses change. -/
structure Outer where
  resetn        : Bool
  blank         : Bool
  cfg           : Settings
  setup         : SetupPort
  sync          : SyncMonitor
  refresh       : RefreshPort
  refreshAnswer : Option Answer
  waits         : Waits
  inFlight      : Option InFlight
  pending       : List Instr

/-- That part of a state. -/
def outer (s : State) : Outer :=
  { resetn := s.resetn, blank := s.blank, cfg := s.cfg, setup := s.setup, sync := s.sync, refresh := s.refresh,
    refreshAnswer := s.refreshAnswer, waits := s.waits, inFlight := s.inFlight, pending := s.pending }

/-- From the outer part, each of its fields. -/
theorem outer_fields {s t : State} (h : outer s = outer t) :
    s.resetn = t.resetn ∧ s.blank = t.blank ∧ s.cfg = t.cfg ∧ s.setup = t.setup ∧ s.sync = t.sync
      ∧ s.refresh = t.refresh ∧ s.refreshAnswer = t.refreshAnswer ∧ s.waits = t.waits ∧ s.inFlight = t.inFlight
      ∧ s.pending = t.pending := by
  simp only [outer, Outer.mk.injEq] at h
  exact h

/-! ### Updates -/

@[simp] theorem outer_raise (e : Event) (s : State) : outer (raise e s) = outer s := rfl
@[simp] theorem outer_modCounters (g : Counters → Counters) (s : State) : outer (modCounters g s) = outer s := rfl
@[simp] theorem outer_modSlot (i : SlotIx) (g : Slot → Slot) (s : State) : outer (modSlot i g s) = outer s := rfl
@[simp] theorem outer_setWrite (w : WriteJob) (s : State) : outer (setWrite w s) = outer s := rfl
@[simp] theorem outer_answerSystem (a : Answer) (s : State) : outer (answerSystem a s) = outer s := rfl
@[simp] theorem outer_beginStall (c : StallCause) (s : State) : outer (beginStall c s) = outer s := rfl
@[simp] theorem outer_endStall (s : State) : outer (endStall s) = outer s := rfl
@[simp] theorem outer_addEntry (e : Entry) (s : State) : outer (addEntry e s) = outer s := rfl
@[simp] theorem outer_composeEntry (w : WordAddr) (i : SlotIx) (m : LaneMask) (t : Transform) (s : State) :
    outer (composeEntry w i m t s) = outer s := rfl
@[simp] theorem outer_removeEntry (w : WordAddr) (i : SlotIx) (s : State) :
    outer (removeEntry w i s) = outer s := rfl
@[simp] theorem outer_removeSlotEntries (i : SlotIx) (s : State) : outer (removeSlotEntries i s) = outer s := rfl
@[simp] theorem outer_openBatch (i : SlotIx) (s : State) : outer (openBatch i s) = outer s := rfl
@[simp] theorem outer_closeSlot (r : CloseReason) (i : SlotIx) (s : State) : outer (closeSlot r i s) = outer s := rfl
@[simp] theorem outer_releaseAll (s : State) : outer (releaseAll s) = outer s := rfl
@[simp] theorem outer_engineIdle (q : Half) (s : State) : outer (engineIdle q s) = outer s := rfl
@[simp] theorem outer_drainError (i : SlotIx) (s : State) : outer (drainError i s) = outer s := rfl
@[simp] theorem outer_countDrained (i : SlotIx) (s : State) : outer (countDrained i s) = outer s := rfl
@[simp] theorem outer_grantWord0 (s : State) : outer (grantWord0 s) = outer s := rfl

/-! ### Records -/

@[simp] theorem outer_testWriter (s : State) : outer (testWriter s) = outer s := by
  unfold testWriter; split <;> rfl

@[simp] theorem outer_pushRecord (r : Rec) (s : State) : outer (pushRecord r s) = outer s := by
  unfold pushRecord; split
  · rw [outer_testWriter]; rfl
  · rfl

@[simp] theorem outer_snoopConsumer (n : Half) (s : State) : outer (snoopConsumer n s) = outer s := by
  unfold snoopConsumer; split
  · rw [outer_testWriter]; rfl
  · rfl

/-! ### The write path -/

@[simp] theorem outer_stepMemory (w : WriteJob) (s : State) : outer (stepMemory w s) = outer s := by
  unfold stepMemory; split <;> rfl

@[simp] theorem outer_completePlain (w : WriteJob) (s : State) : outer (completePlain w s) = outer s := by
  unfold completePlain; split <;> simp

@[simp] theorem outer_commitWithoutSlot (w : WriteJob) (s : State) : outer (commitWithoutSlot w s) = outer s := by
  unfold commitWithoutSlot; split <;> simp

@[simp] theorem outer_commitWithoutPlace (w : WriteJob) (s : State) : outer (commitWithoutPlace w s) = outer s := rfl

@[simp] theorem outer_commit (w : WriteJob) (s : State) : outer (commit w s) = outer s := by
  unfold commit
  split
  · simp
  · split
    · simp
    · split <;> simp

@[simp] theorem outer_stepCommit (w : WriteJob) (s : State) : outer (stepCommit w s) = outer s := by
  unfold stepCommit; split <;> simp

@[simp] theorem outer_stepDestination (w : WriteJob) (s : State) : outer (stepDestination w s) = outer s := by
  unfold stepDestination; split <;> simp

@[simp] theorem outer_placeFreed (s : State) : outer (placeFreed s) = outer s := by
  unfold placeFreed
  split
  · split
    · split <;> simp
    · rfl
    · rfl
  · rfl

/-! ### Batches and forces -/

@[simp] theorem outer_releaseOldest (s : State) : outer (releaseOldest s) = outer s := by
  unfold releaseOldest; split <;> simp

@[simp] theorem outer_extendDrainSet (s : State) : outer (extendDrainSet s) = outer s := by
  unfold extendDrainSet; split <;> rfl

@[simp] theorem outer_extendHorizon (q : Half) (s : State) : outer (extendHorizon q s) = outer s := by
  unfold extendHorizon; split <;> rfl

@[simp] theorem outer_extendHorizonTo (i : Option SlotIx) (s : State) : outer (extendHorizonTo i s) = outer s := by
  unfold extendHorizonTo; split <;> simp

@[simp] theorem outer_closeAndOpen (r : CloseReason) (s : State) : outer (closeAndOpen r s) = outer s := by
  unfold closeAndOpen; split <;> simp

@[simp] theorem outer_closeAndForce (r : CloseReason) (s : State) : outer (closeAndForce r s) = outer s := by
  unfold closeAndForce
  split
  · exact (outer_extendHorizon _ _).trans (by simp)
  · rfl

@[simp] theorem outer_enterPass (s : State) : outer (enterPass s) = outer s := by
  unfold enterPass
  dsimp only
  split
  · split
    · simp; rfl
    · rfl
  · rfl
  · rfl

@[simp] theorem outer_takeWaitingClose (w : WriteJob) (s : State) : outer (takeWaitingClose w s) = outer s := by
  simp [takeWaitingClose]

@[simp] theorem outer_slotFreed (s : State) : outer (slotFreed s) = outer s := by
  unfold slotFreed
  split
  · split <;> simp
  · split
    · simp
    · split
      · exact (outer_closeAndForce _ _).trans rfl
      · split <;> simp
  · rfl

@[simp] theorem outer_startBatch (i : SlotIx) (b : Bool) (s : State) : outer (startBatch i b s) = outer s := by
  unfold startBatch; cases b <;> rfl

@[simp] theorem outer_takeEntry (i : SlotIx) (e : Entry) (s : State) : outer (takeEntry i e s) = outer s := by
  unfold takeEntry; split <;> rfl

@[simp] theorem outer_completeBatch (i : SlotIx) (s : State) : outer (completeBatch i s) = outer s := by
  simp [completeBatch]

@[simp] theorem outer_engineRun (n : Nat) (s : State) : outer (engineRun n s) = outer s := by
  induction n generalizing s with
  | zero => rfl
  | succ n ih =>
    unfold engineRun
    split
    · rfl
    · dsimp only
      split
      · simp
      · simp [ih]

@[simp] theorem outer_engineTest (s : State) : outer (engineTest s) = outer s := outer_engineRun 8 s

@[simp] theorem outer_nextEntry (i : SlotIx) (s : State) : outer (nextEntry i s) = outer s := by
  unfold nextEntry; split <;> simp

@[simp] theorem outer_tornTest (i : SlotIx) (s : State) : outer (tornTest i s) = outer s := by
  unfold tornTest; split <;> rfl

@[simp] theorem outer_forceForPlace (s : State) : outer (forceForPlace s) = outer s := by
  unfold forceForPlace
  split
  · simp
  · dsimp only
    split
    · exact (outer_closeAndForce _ _).trans ((outer_extendHorizonTo _ _).trans rfl)
    · exact (outer_extendHorizonTo _ _).trans rfl

@[simp] theorem outer_forceFor (c : StallCause) (s : State) : outer (forceFor c s) = outer s := by
  cases c <;> simp [forceFor]

@[simp] theorem outer_expireStall (s : State) : outer (expireStall s) = outer s := by
  unfold expireStall
  dsimp only
  rw [outer_engineTest, outer_forceFor]
  rfl

/-! ### Acceptance of a write -/

@[simp] theorem outer_otherMarkEffect (w : WriteJob) (s : State) : outer (otherMarkEffect w s) = outer s := by
  unfold otherMarkEffect
  split
  · split <;> simp
  · simp
  · rfl
  · rfl

@[simp] theorem outer_acceptClose (w : WriteJob) (s : State) : outer (acceptClose w s) = outer s := by
  unfold acceptClose; split <;> simp

@[simp] theorem outer_acceptEngaged (w : WriteJob) (s : State) : outer (acceptEngaged w s) = outer s := by
  unfold acceptEngaged
  split
  · split <;> simp
  · split <;> simp

@[simp] theorem outer_acceptQuiescing (w : WriteJob) (d : Bool) (s : State) :
    outer (acceptQuiescing w d s) = outer s := by
  unfold acceptQuiescing; split <;> simp

/-- A system write changes nothing of the outer part, whatever the part state. -/
@[simp] theorem outer_acceptWrite (word : WordAddr) (lanes : LaneMask) (data : Word) (s : State) :
    outer (acceptWrite word lanes data s) = outer s := by
  unfold acceptWrite; split <;> simp

@[simp] theorem outer_afterDestinationRead (w : WriteJob) (r : ReadReply) (s : State) :
    outer (afterDestinationRead w r s) = outer s := by
  unfold afterDestinationRead
  split
  · simp
  · split <;> simp

end Sys2Proof.Machine
end

