-- ==== Sys2Proof/Laws/Batches.lean ====
section
/-! SUPPORT. What depends on the batch queue alone, and the operations that leave the part state, the batch queue and the
drain engine as they are: the course of a write, the records, the stalls and the events. -/

namespace Sys2Proof.Machine

/-! ### The queue order is a function of the batch queue -/

theorem slotOf_congr {s t : State} (h : s.batch = t.batch) (i : SlotIx) : slotOf i s = slotOf i t := by
  simp only [slotOf, h]

theorem slotState_congr {s t : State} (h : s.batch = t.batch) (i : SlotIx) : slotState i s = slotState i t := by
  simp only [slotState, slotOf_congr h]

theorem slotAge_congr {s t : State} (h : s.batch = t.batch) (i : SlotIx) : slotAge i s = slotAge i t := by
  simp only [slotAge, age, slotOf_congr h, h]

theorem insertByAge_congr {s t : State} (h : s.batch = t.batch) (i : SlotIx) (l : List SlotIx) :
    insertByAge i s l = insertByAge i t l := by
  induction l with
  | nil => rfl
  | cons j l ih => simp only [insertByAge, ih, slotAge_congr h]

theorem queueOrder_congr {s t : State} (h : s.batch = t.batch) : queueOrder s = queueOrder t := by
  have hi : (fun i l => insertByAge i s l) = fun i l => insertByAge i t l := by
    funext i l
    exact insertByAge_congr h i l
  simp only [queueOrder, slotState_congr h, hi]

theorem nonOpenQueue_congr {s t : State} (h : s.batch = t.batch) : nonOpenQueue s = nonOpenQueue t := by
  simp only [nonOpenQueue, queueOrder_congr h, slotState_congr h]

theorem oldestNonOpen_congr {s t : State} (h : s.batch = t.batch) : oldestNonOpen s = oldestNonOpen t := by
  simp only [oldestNonOpen, nonOpenQueue_congr h]

theorem youngestNonOpen_congr {s t : State} (h : s.batch = t.batch) : youngestNonOpen s = youngestNonOpen t := by
  simp only [youngestNonOpen, nonOpenQueue_congr h]

theorem oldestHeld_congr {s t : State} (h : s.batch = t.batch) : oldestHeld s = oldestHeld t := by
  simp only [oldestHeld, queueOrder_congr h, slotState_congr h]

theorem openSlot_congr {s t : State} (h : s.batch = t.batch) : openSlot s = openSlot t := by
  simp only [openSlot, lowestSlot, slotState_congr h]

theorem freeSlot_congr {s t : State} (h : s.batch = t.batch) : freeSlot s = freeSlot t := by
  simp only [freeSlot, lowestSlot, slotState_congr h]

/-- The composition of a word's entries depends on the entries and the batch queue alone. -/
theorem composed_congr {s t : State} (hb : s.batch = t.batch) (he : s.buf.entries = t.buf.entries) (w : WordAddr) :
    composed w s = composed w t := by
  simp only [composed, wordEntries, queueOrder_congr hb, findEntry, he]

/-- The choice of the drain engine depends on the batch queue, the engine and the SYNC source alone. -/
theorem startChoice_congr {s t : State} (hb : s.batch = t.batch) (hd : s.drain = t.drain) (hc : s.cfg = t.cfg) :
    startChoice s = startChoice t := by
  have hs : ∀ q : Half, inDrainSet q s = inDrainSet q t := fun q => by
    unfold inDrainSet age
    rw [hb, hd]
  have hh : ∀ q : Half, inHorizon q s = inHorizon q t := fun q => by
    unfold inHorizon age
    rw [hb, hd]
  unfold startChoice
  rw [hd, oldestNonOpen_congr hb]
  split
  · rfl
  · split
    · rfl
    · rename_i i _
      rw [slotOf_congr hb i]
      dsimp only
      rw [hs, hh, hc]

/-! ### What leaves the part state, the batch queue and the engine -/

/-- The part state, the batch queue and the drain engine. -/
structure BatchView where
  part  : PartState
  batch : BatchQueue
  drain : DrainEngine

/-- Those of a state. -/
def batchView (s : State) : BatchView := { part := s.part, batch := s.batch, drain := s.drain }

theorem batchView_fields {s t : State} (h : batchView s = batchView t) :
    s.part = t.part ∧ s.batch = t.batch ∧ s.drain = t.drain := by
  simp only [batchView, BatchView.mk.injEq] at h
  exact h

@[simp] theorem batchView_raise (e : Event) (s : State) : batchView (raise e s) = batchView s := rfl
@[simp] theorem batchView_modCounters (g : Counters → Counters) (s : State) :
    batchView (modCounters g s) = batchView s := rfl
@[simp] theorem batchView_setWrite (w : WriteJob) (s : State) : batchView (setWrite w s) = batchView s := rfl
@[simp] theorem batchView_answerSystem (a : Answer) (s : State) : batchView (answerSystem a s) = batchView s := rfl
@[simp] theorem batchView_answerRefresh (a : Answer) (s : State) : batchView (answerRefresh a s) = batchView s := rfl
@[simp] theorem batchView_beginStall (c : StallCause) (s : State) : batchView (beginStall c s) = batchView s := rfl
@[simp] theorem batchView_endStall (s : State) : batchView (endStall s) = batchView s := rfl
@[simp] theorem batchView_addEntry (e : Entry) (s : State) : batchView (addEntry e s) = batchView s := rfl
@[simp] theorem batchView_composeEntry (w : WordAddr) (i : SlotIx) (m : LaneMask) (t : Transform) (s : State) :
    batchView (composeEntry w i m t s) = batchView s := rfl
@[simp] theorem batchView_removeEntry (w : WordAddr) (i : SlotIx) (s : State) :
    batchView (removeEntry w i s) = batchView s := rfl
@[simp] theorem batchView_removeSlotEntries (i : SlotIx) (s : State) :
    batchView (removeSlotEntries i s) = batchView s := rfl
@[simp] theorem batchView_grantWord0 (s : State) : batchView (grantWord0 s) = batchView s := rfl
@[simp] theorem batchView_putInFlight (q : MemRequest) (s : State) : batchView (putInFlight q s) = batchView s := rfl

@[simp] theorem batchView_testWriter (s : State) : batchView (testWriter s) = batchView s := by
  unfold testWriter; split <;> rfl

@[simp] theorem batchView_pushRecord (r : Rec) (s : State) : batchView (pushRecord r s) = batchView s := by
  unfold pushRecord; split
  · rw [batchView_testWriter]; rfl
  · rfl

@[simp] theorem batchView_snoopConsumer (n : Half) (s : State) : batchView (snoopConsumer n s) = batchView s := by
  unfold snoopConsumer; split
  · rw [batchView_testWriter]; rfl
  · rfl

@[simp] theorem batchView_reportError (f : InFlight) (s : State) : batchView (reportError f s) = batchView s := by
  unfold reportError
  split
  · rfl
  · dsimp only
    split <;> rfl

@[simp] theorem batchView_takeResponse (f : InFlight) (b : Bool) (s : State) :
    batchView (takeResponse f b s) = batchView s := by
  unfold takeResponse
  dsimp only
  split
  · rw [batchView_reportError]; rfl
  · rfl

@[simp] theorem batchView_stepMemory (w : WriteJob) (s : State) : batchView (stepMemory w s) = batchView s := by
  unfold stepMemory; split <;> rfl

@[simp] theorem batchView_completePlain (w : WriteJob) (s : State) :
    batchView (completePlain w s) = batchView s := by
  unfold completePlain; split <;> simp

@[simp] theorem batchView_commitWithoutSlot (w : WriteJob) (s : State) :
    batchView (commitWithoutSlot w s) = batchView s := by
  unfold commitWithoutSlot; split <;> simp

@[simp] theorem batchView_commit (w : WriteJob) (s : State) : batchView (commit w s) = batchView s := by
  unfold commit
  split
  · simp
  · split
    · simp
    · split
      · simp
      · rfl

@[simp] theorem batchView_stepCommit (w : WriteJob) (s : State) : batchView (stepCommit w s) = batchView s := by
  unfold stepCommit; split <;> simp

@[simp] theorem batchView_stepDestination (w : WriteJob) (s : State) :
    batchView (stepDestination w s) = batchView s := by
  unfold stepDestination; split <;> simp

@[simp] theorem batchView_placeFreed (s : State) : batchView (placeFreed s) = batchView s := by
  unfold placeFreed
  split
  · split
    · split <;> simp
    · rfl
    · rfl
  · rfl

@[simp] theorem batchView_afterDestinationRead (w : WriteJob) (r : ReadReply) (s : State) :
    batchView (afterDestinationRead w r s) = batchView s := by
  unfold afterDestinationRead
  split
  · simp
  · split <;> simp

end Sys2Proof.Machine
end

