-- ==== Sys2Proof/Laws/Buffer.lean ====
section
/-! SUPPORT. The hold buffer keeps its form: every operation that changes its entries keeps bufferWf. -/

namespace Sys2Proof.Machine

/-- Only the entries matter to the form of the buffer. -/
theorem bufferWf_congr {s t : State} (h : s.buf.entries = t.buf.entries) : bufferWf s ↔ bufferWf t := by
  simp only [bufferWf, h]

/-- Keep bits outside the mask are 1 and flip bits outside it are 0 in a restricted transform, so restricting it again to
the same mask changes nothing (R42). -/
theorem Transform.restrict_restrict (t : Transform) (m : LaneMask) :
    (t.restrict m).restrict m = t.restrict m := by
  simp only [Transform.restrict, Transform.mk.injEq]
  constructor
  · ext k hk
    simp only [BitVec.getElem_or, BitVec.getElem_not]
    cases t.keep[k] <;> cases (laneBits m)[k] <;> rfl
  · ext k hk
    simp only [BitVec.getElem_and]
    cases t.flip[k] <;> cases (laneBits m)[k] <;> rfl

/-- The word mask of two lane masks together. -/
theorem laneBits_or (m l : LaneMask) : laneBits (m ||| l) = laneBits m ||| laneBits l := by
  revert m l; decide

/-- Two transforms restricted to their masks compose to one restricted to both (R43). -/
theorem Transform.restrict_andThen (t u : Transform) (m l : LaneMask) (ht : t.restrict m = t) (hu : u.restrict l = u) :
    (t.andThen u).restrict (m ||| l) = t.andThen u := by
  rw [← ht, ← hu]
  simp only [Transform.restrict, Transform.andThen, laneBits_or, Transform.mk.injEq]
  constructor
  · ext k hk
    simp only [BitVec.getElem_or, BitVec.getElem_and, BitVec.getElem_not]
    cases t.keep[k] <;> cases u.keep[k] <;> cases (laneBits m)[k] <;> cases (laneBits l)[k] <;> rfl
  · ext k hk
    simp only [BitVec.getElem_or, BitVec.getElem_and, BitVec.getElem_not, BitVec.getElem_xor]
    cases t.flip[k] <;> cases u.keep[k] <;> cases u.flip[k] <;> cases (laneBits m)[k] <;> cases (laneBits l)[k] <;> rfl

/-- A write's hold transform is identity outside its lanes to hold (R42). -/
theorem WriteJob.holdTransform_restrict (w : WriteJob) : w.holdTransform.restrict w.lanesToHold = w.holdTransform :=
  Transform.restrict_restrict _ _

/-- A write composed into an entry keeps its form (R43). -/
theorem Entry.wf_compose {e : Entry} {m : LaneMask} {t : Transform} (he : e.wf) (hm : m ≠ 0#4)
    (ht : t.restrict m = t) : (e.compose m t).wf := by
  refine ⟨?_, Transform.restrict_andThen _ _ _ _ he.2 ht⟩
  show e.lanes ||| m ≠ 0#4
  generalize e.lanes = l
  intro h
  apply hm
  clear hm ht
  revert l m
  decide

/-- A new entry for a word and slot that had none (R44). -/
theorem bufferWf_addEntry {e : Entry} {s : State} (h : bufferWf s) (he : e.wf)
    (hn : findEntry e.word e.slot s = none) : bufferWf (addEntry e s) := by
  obtain ⟨h1, h2⟩ := h
  refine ⟨?_, ?_⟩
  · intro x hx
    have hx : x ∈ s.buf.entries ++ [e] := hx
    rcases List.mem_append.1 hx with hx | hx
    · exact h1 x hx
    · rw [List.mem_singleton.1 hx]; exact he
  · show (s.buf.entries ++ [e]).Pairwise _
    refine List.pairwise_append.2 ⟨h2, List.pairwise_singleton _ _, ?_⟩
    intro x hx y hy
    rw [List.mem_singleton.1 hy]
    have := List.find?_eq_none.1 hn x hx
    simpa using this

/-- A write composed into the entry of its word and slot (R43). -/
theorem bufferWf_composeEntry {word : WordAddr} {i : SlotIx} {m : LaneMask} {t : Transform} {s : State}
    (h : bufferWf s) (hm : m ≠ 0#4) (ht : t.restrict m = t) : bufferWf (composeEntry word i m t s) := by
  obtain ⟨h1, h2⟩ := h
  refine ⟨?_, ?_⟩
  · intro x hx
    obtain ⟨e, he, hx⟩ := List.mem_map.1 (show x ∈ s.buf.entries.map _ from hx)
    subst hx
    split
    · exact Entry.wf_compose (h1 e he) hm ht
    · exact h1 e he
  · show (s.buf.entries.map _).Pairwise _
    refine List.pairwise_map.2 (h2.imp ?_)
    intro a b hab
    have hw : ∀ e : Entry, (if e.word == word && e.slot == i then e.compose m t else e).word = e.word
        ∧ (if e.word == word && e.slot == i then e.compose m t else e).slot = e.slot := by
      intro e
      split <;> exact ⟨rfl, rfl⟩
    rw [(hw a).1, (hw a).2, (hw b).1, (hw b).2]
    exact hab

/-- Fewer entries keep the form. -/
theorem bufferWf_filter {s t : State} (h : bufferWf s) (p : Entry → Bool)
    (ht : t.buf.entries = s.buf.entries.filter p) : bufferWf t := by
  refine ⟨?_, ?_⟩
  · intro e he
    rw [ht] at he
    exact h.1 e (List.mem_filter.1 he).1
  · rw [ht]
    exact h.2.filter p

theorem bufferWf_removeEntry {word : WordAddr} {i : SlotIx} {s : State} (h : bufferWf s) :
    bufferWf (removeEntry word i s) := bufferWf_filter h _ rfl

theorem bufferWf_removeSlotEntries {i : SlotIx} {s : State} (h : bufferWf s) : bufferWf (removeSlotEntries i s) :=
  bufferWf_filter h _ rfl

end Sys2Proof.Machine
end

