-- ==== Sys2Proof/Laws/Course.lean ====
section
/-! SUPPORT. What each of the operations with several outcomes can do, said once: the commit, a freed place, a freed slot,
a forcing close, the drain engine's test. -/

namespace Sys2Proof.Machine

/-! ### The commit (R43, R44, R71) -/

@[simp] theorem commitSlot_left {w : WriteJob} (h : w.leftEngaged = true) (s : State) : commitSlot w s = none := by
  simp only [commitSlot, h, if_true]

@[simp] theorem commitSlot_engaged {w : WriteJob} (h : w.leftEngaged = false) (s : State) :
    commitSlot w s = openSlot s := by
  simp only [commitSlot, h, Bool.false_eq_true, if_false]

/-- A commit is refused for want of a slot, composes, makes an entry, or is refused for want of a place. -/
theorem commit_cases (w : WriteJob) (s : State) :
    (commitSlot w s = none ∧ commit w s = commitWithoutSlot w s)
      ∨ ∃ i, commitSlot w s = some i ∧
          ((∃ e, findEntry w.word i s = some e
              ∧ commit w s = stepMemory { w with reserved := false } (composeEntry w.word i w.lanesToHold w.holdTransform s))
            ∨ (findEntry w.word i s = none ∧ (w.reserved = true ∨ placeFree s = true)
              ∧ commit w s = stepMemory { w with reserved := false } (addEntry (w.newEntry i) s))
            ∨ (findEntry w.word i s = none ∧ w.reserved = false ∧ placeFree s = false
              ∧ commit w s = commitWithoutPlace w s)) := by
  unfold commit
  cases hs : commitSlot w s with
  | none => exact .inl ⟨rfl, rfl⟩
  | some i =>
    refine .inr ⟨i, rfl, ?_⟩
    cases hf : findEntry w.word i s with
    | some e => exact .inl ⟨e, rfl, by simp only [hf, Option.isSome_some, if_true]⟩
    | none =>
      by_cases hp : (w.reserved || placeFree s) = true
      · exact .inr (.inl ⟨rfl, by simpa using hp, by
          simp only [hf, Option.isSome_none, Bool.false_eq_true, if_false, hp, if_true]⟩)
      · have hn : w.reserved = false ∧ placeFree s = false := by simpa using hp
        exact .inr (.inr ⟨rfl, hn.1, hn.2, by
          simp only [hf, Option.isSome_none, Bool.false_eq_true, if_false, hp]⟩)

/-! ### A freed place (R40, R66) -/

/-- A freed place changes nothing, or goes to the write in progress that waits for one, whose stall ends. -/
theorem placeFreed_cases (s : State) :
    placeFreed s = s
      ∨ ∃ w, s.sys = .write w ∧ placeFree s = true ∧
          let t := endStall (setWrite { w with reserved := true } s)
          (w.phase = .waitPlace ∧ placeFreed s = stepDestination { w with reserved := true } t)
            ∨ (w.phase = .waitCommitPlace ∧ placeFreed s = stepCommit { w with reserved := true } t) := by
  unfold placeFreed
  split
  · rename_i hp
    split
    · rename_i w hw
      cases hq : w.phase
      · exact .inr ⟨w, hw, hp, .inl ⟨hq, rfl⟩⟩
      · exact .inl rfl
      · exact .inl rfl
      · exact .inl rfl
      · exact .inl rfl
      · exact .inr ⟨w, hw, hp, .inr ⟨hq, rfl⟩⟩
      · exact .inl rfl
      · exact .inl rfl
    · exact .inl rfl
    · exact .inl rfl
  · exact .inl rfl

/-! ### Closes and a freed slot (R87, R88, R125, R128, R171) -/

/-- A close that opens another batch does so where a batch is OPEN and a slot is FREE, and changes nothing elsewhere. -/
theorem closeAndOpen_cases (r : CloseReason) (s : State) :
    closeAndOpen r s = s
      ∨ ∃ i j, openSlot s = some i ∧ freeSlot s = some j ∧ closeAndOpen r s = openBatch j (closeSlot r i s) := by
  unfold closeAndOpen
  split
  · rename_i i j hi hj
    exact .inr ⟨i, j, hi, hj, rfl⟩
  · exact .inl rfl

/-- A forcing close likewise; it puts the closed batch within the horizon, and no force-close is owed after it. -/
theorem closeAndForce_cases (r : CloseReason) (s : State) :
    closeAndForce r s = s
      ∨ ∃ i j, openSlot s = some i ∧ freeSlot s = some j ∧
          closeAndForce r s =
            { extendHorizon (slotOf i s).sequence (openBatch j (closeSlot r i s)) with stall.forceCloseOwed := false } := by
  unfold closeAndForce
  split
  · rename_i i j hi hj
    exact .inr ⟨i, j, hi, hj, rfl⟩
  · exact .inl rfl

/-- A freed slot changes nothing, ends QUIESCING, or goes to one of the three that wait for it. -/
theorem slotFreed_cases (s : State) :
    slotFreed s = s
      ∨ (s.part = .quiescing ∧ allFree s = true ∧ slotFreed s = enterPass s)
      ∨ (s.part = .engaged ∧
          ((∃ w, waitingClose s = some w ∧ slotFreed s = takeWaitingClose w s)
            ∨ slotFreed s = closeAndForce .command { s with batch.pendingClose := false }
            ∨ slotFreed s = closeAndForce .force s)) := by
  unfold slotFreed
  cases hp : s.part with
  | pass => exact .inl rfl
  | quiescing =>
    dsimp only
    split
    · rename_i h
      exact .inr (.inl ⟨rfl, h, rfl⟩)
    · exact .inl rfl
  | engaged =>
    dsimp only
    split
    · rename_i w h
      exact .inr (.inr ⟨rfl, .inl ⟨w, h, rfl⟩⟩)
    · split
      · exact .inr (.inr ⟨rfl, .inr (.inl rfl)⟩)
      · split
        · exact .inr (.inr ⟨rfl, .inr (.inr rfl)⟩)
        · exact .inl rfl

/-! ### The drain engine's test (R103, R111) -/

/-- What the start of a batch, the taking of an entry and the completion of a batch without entries all keep, the engine's
test keeps. -/
theorem engineTest_keeps {P : State → Prop}
    (start : ∀ i forced s, P s → startChoice s = some (i, forced) → P (startBatch i forced s))
    (take : ∀ i e s, P s → oldestEntry i s = some e → P (takeEntry i e s))
    (complete : ∀ i s, P s → oldestEntry i s = none → P (completeBatch i s)) {s : State} (h : P s) :
    P (engineTest s) := by
  suffices run : ∀ n s, P s → P (engineRun n s) from run 8 s h
  intro n
  induction n with
  | zero => exact fun _ hs => hs
  | succ n ih =>
    intro s hs
    unfold engineRun
    split
    · exact hs
    · rename_i i forced hc
      dsimp only
      have hb := start i forced s hs hc
      split
      · rename_i e he
        exact take i e _ hb he
      · rename_i he
        exact ih _ (complete i _ hb he)

end Sys2Proof.Machine
end

