-- ==== Sys2Proof/Laws/Lanes.lean ====
section
/-! SUPPORT. Lane by lane: what one lane of a mask or of a word made of four lanes is, how the bitwise operations act on one
lane, and that a word is its four lanes. -/

namespace Sys2Proof.Machine

@[simp] theorem hasLane_maskOfLanes (f : Four Bool) (i : LaneIx) : hasLane (maskOfLanes f) i = f.get i := by
  obtain ⟨a, b, c, d⟩ := f
  revert i a b c d
  decide

@[simp] theorem hasLane_and (m l : LaneMask) (i : LaneIx) : hasLane (m &&& l) i = (hasLane m i && hasLane l i) :=
  BitVec.getLsbD_and

/-- Every bit of a lane is a bit of the word. -/
theorem getLsbD_laneByte (w : Word) (i : LaneIx) (k : Nat) (h : k < 8) :
    (laneByte w i).getLsbD k = w.getLsbD (8 * i.val + k) := by
  simp only [laneByte, BitVec.getLsbD_extractLsb', h, decide_true, Bool.true_and]

@[simp] theorem laneByte_wordOfLanes (f : Four Byte) (i : LaneIx) : laneByte (wordOfLanes f) i = f.get i := by
  apply BitVec.eq_of_getLsbD_eq
  intro k hk
  rw [getLsbD_laneByte _ _ _ hk]
  simp only [wordOfLanes, BitVec.getLsbD_append]
  match i with
  | 0 => rw [if_pos (by omega)]; exact congrArg _ (by omega)
  | 1 => rw [if_neg (by omega), if_pos (by omega)]; exact congrArg _ (by omega)
  | 2 => rw [if_neg (by omega), if_neg (by omega), if_pos (by omega)]; exact congrArg _ (by omega)
  | 3 => rw [if_neg (by omega), if_neg (by omega), if_neg (by omega)]; exact congrArg _ (by omega)

@[simp] theorem and_fillByte (b : Byte) (c : Bool) : b &&& fillByte c = if c = true then b else 0#8 := by
  revert c b
  decide

@[simp] theorem or_not_fillByte (b : Byte) (c : Bool) : b ||| ~~~fillByte c = if c = true then b else 0xFF#8 := by
  revert c b
  decide

@[simp] theorem laneByte_laneBits (m : LaneMask) (i : LaneIx) : laneByte (laneBits m) i = fillByte (hasLane m i) := by
  simp only [laneBits, laneByte_wordOfLanes, Four.get_of]

@[simp] theorem laneByte_and (v w : Word) (i : LaneIx) : laneByte (v &&& w) i = laneByte v i &&& laneByte w i :=
  BitVec.extractLsb'_and

@[simp] theorem laneByte_or (v w : Word) (i : LaneIx) : laneByte (v ||| w) i = laneByte v i ||| laneByte w i :=
  BitVec.extractLsb'_or

@[simp] theorem laneByte_xor (v w : Word) (i : LaneIx) : laneByte (v ^^^ w) i = laneByte v i ^^^ laneByte w i :=
  BitVec.extractLsb'_xor

@[simp] theorem laneByte_not (w : Word) (i : LaneIx) : laneByte (~~~w) i = ~~~laneByte w i := by
  apply BitVec.eq_of_getLsbD_eq
  intro k hk
  have hb : 8 * i.val + k < 32 := by omega
  simp only [getLsbD_laneByte _ _ _ hk, BitVec.getLsbD_not, hk, hb, decide_true, Bool.true_and]

@[simp] theorem laneByte_zero (i : LaneIx) : laneByte 0#32 i = 0#8 := by
  revert i
  decide

/-- Two words that agree on every lane are equal. -/
theorem word_eq_of_lanes {v w : Word} (h : ∀ i, laneByte v i = laneByte w i) : v = w := by
  apply BitVec.eq_of_getLsbD_eq
  intro k hk
  have hq : k / 8 < 4 := by omega
  have hm : k % 8 < 8 := Nat.mod_lt _ (by omega)
  have hd : 8 * (⟨k / 8, hq⟩ : LaneIx).val + k % 8 = k := Nat.div_add_mod k 8
  have hb := congrArg (fun b => b.getLsbD (k % 8)) (h ⟨k / 8, hq⟩)
  simpa only [getLsbD_laneByte _ _ _ hm, hd] using hb

end Sys2Proof.Machine
end

