-- ==== Sys2Proof/Laws/PerInstr.lean ====
section
/-! SUPPORT. The family SetupRow: what a row's bytes look like, one lemma per constructor. -/

namespace Sys2Proof.Laws.SetupRow

/-- A row that stands for a setup command has a command byte Table 11-4 assigns, with that table's parameter count. -/
def Statement (i : Instr) : Prop :=
  ∀ c, i.setupCommand = some c → assignedCode c.code = true ∧ paramCount c.code = some c.params.length

/-- A row that is no setup command says nothing here. -/
theorem of_none {i : Instr} (h : i.setupCommand = none) : Statement i := fun c hc => by
  rw [h] at hc; cases hc

/-- A row's one command has an assigned byte and the right count. -/
theorem of_some {i : Instr} {d : SetupCommand} (h : i.setupCommand = some d) (ha : assignedCode d.code = true)
    (hp : paramCount d.code = some d.params.length) : Statement i := fun c hc => by
  rw [h] at hc; cases hc; exact ⟨ha, hp⟩

theorem transactionStart : Statement .transactionStart := of_none rfl
theorem transactionEnd : Statement .transactionEnd := of_none rfl
theorem unknownCommand (x : Byte) : Statement (.unknownCommand x) := of_none rfl
theorem ident : Statement .ident := of_some rfl rfl rfl
theorem status : Statement .status := of_some rfl rfl rfl
theorem events : Statement .events := of_some rfl rfl rfl
theorem clear (x : Byte) : Statement (.clear x) := of_some rfl rfl rfl
theorem mask (x : Byte) : Statement (.mask x) := of_some rfl rfl rfl
theorem winWrite (x : WinParams) : Statement (.winWrite x) := of_some rfl rfl rfl
theorem winRead (x : Byte) : Statement (.winRead x) := of_some rfl rfl rfl
theorem winEnable (x : Byte) : Statement (.winEnable x) := of_some rfl rfl rfl
theorem winDisable (x : Byte) : Statement (.winDisable x) := of_some rfl rfl rfl
theorem marks (x y z : WordAddr) : Statement (.marks x y z) := of_some rfl rfl rfl
theorem ring (x : WordAddr) (y : Byte) : Statement (.ring x y) := of_some rfl rfl rfl
theorem sync (x : Byte) : Statement (.sync x) := of_some rfl rfl rfl
theorem tick (x : Byte) : Statement (.tick x) := of_some rfl rfl rfl
theorem stall (x : Half) : Statement (.stall x) := of_some rfl rfl rfl
theorem arbitration (x : Byte) : Statement (.arbitration x) := of_some rfl rfl rfl
theorem engage : Statement .engage := of_some rfl rfl rfl
theorem disengage : Statement .disengage := of_some rfl rfl rfl
theorem discard : Statement .discard := of_some rfl rfl rfl
theorem flush : Statement .flush := of_some rfl rfl rfl
theorem counters (x : Byte) : Statement (.counters x) := of_some rfl rfl rfl
theorem countersClear : Statement .countersClear := of_some rfl rfl rfl
theorem errinfo : Statement .errinfo := of_some rfl rfl rfl
theorem softReset : Statement .softReset := of_some rfl rfl rfl
theorem pinReset : Statement .pinReset := of_none rfl
theorem resetnRise : Statement .resetnRise := of_none rfl
theorem timeBaseTick : Statement .timeBaseTick := of_none rfl
theorem stallExpiry : Statement .stallExpiry := of_none rfl
theorem blankStart : Statement .blankStart := of_none rfl
theorem blankEnd : Statement .blankEnd := of_none rfl
theorem systemRead (x : WordAddr) (y : LaneMask) : Statement (.systemRead x y) := of_none rfl
theorem systemWrite (x : WordAddr) (y : LaneMask) (z : Word) : Statement (.systemWrite x y z) := of_none rfl
theorem refreshRead (x : WordAddr) (y : LaneMask) : Statement (.refreshRead x y) := of_none rfl
theorem refreshWrite (x : WordAddr) (y : LaneMask) : Statement (.refreshWrite x y) := of_none rfl
theorem arbiterGrant : Statement .arbiterGrant := of_none rfl
theorem systemReadResponse (x : ReadReply) : Statement (.systemReadResponse x) := of_none rfl
theorem destinationReadResponse (x : ReadReply) : Statement (.destinationReadResponse x) := of_none rfl
theorem immediateWriteResponse (x : WriteReply) : Statement (.immediateWriteResponse x) := of_none rfl
theorem drainReadResponse (x : ReadReply) : Statement (.drainReadResponse x) := of_none rfl
theorem drainWriteResponse (x : WriteReply) : Statement (.drainWriteResponse x) := of_none rfl
theorem recordWriteResponse (x : WriteReply) : Statement (.recordWriteResponse x) := of_none rfl
theorem refreshReadResponse (x : ReadReply) : Statement (.refreshReadResponse x) := of_none rfl
theorem setupByteShifted (x : Byte) : Statement (.setupByteShifted x) := of_none rfl
theorem blankPinChange (x : Bool) : Statement (.blankPinChange x) := of_none rfl

end Sys2Proof.Laws.SetupRow
end

