-- ==== Sys2Proof/Laws/Ports.lean ====
section
/-! SUPPORT. The two operations that every setup row and every memory response go through: delivering the bytes of a
command, and taking a response with its error report. -/

namespace Sys2Proof.Machine

/-! ### The setup port -/

/-- With the port ready for it, a command row executes. -/
theorem deliver_ready {bytes : List Byte} {run : State → CommandOut} {s : State} (h : portReady bytes s) :
    deliver bytes run s = .next (execute run s) := by
  obtain ⟨hr, got, hp, h1, h2⟩ := h
  simp only [deliver, hr, hp, Bool.true_eq_false, if_false]
  rw [if_pos ⟨h1, h2⟩]

/-- With RESETn low, CSn high or the port blocked, a command row changes nothing. -/
theorem deliver_closed {bytes : List Byte} {run : State → CommandOut} {s : State}
    (h : s.resetn = false ∨ s.setup.phase = .noTransaction ∨ s.setup.phase = .blocked) :
    deliver bytes run s = .next s := by
  rcases h with h | h | h
  · simp [deliver, h]
  · simp [deliver, h]
  · simp [deliver, h]

/-- After a command has executed in the transaction, a row's bytes only clock the response out. -/
theorem deliver_executed {bytes : List Byte} {run : State → CommandOut} {s : State} {out : List Byte} {r : Bool}
    (hr : s.resetn = true) (hp : s.setup.phase = .executed out r) :
    deliver bytes run s = .next (clockOut bytes.length s) := by
  simp [deliver, hr, hp]

/-- A row that contradicts the bytes in assembly stops. -/
theorem deliver_contradicts {bytes : List Byte} {run : State → CommandOut} {s : State} {got : List Byte}
    (hr : s.resetn = true) (hp : s.setup.phase = .assembling got)
    (h : ¬(got.length < bytes.length ∧ got = bytes.take got.length)) :
    deliver bytes run s = .fault .notTheCommandInAssembly := by
  simp only [deliver, hr, hp, Bool.true_eq_false, if_false, if_neg h]

/-- A refused command leaves the state but for the port. -/
theorem execute_refused {run : State → CommandOut} {s : State} {c : ResultCode} (h : run s = refuse c s) :
    execute run s = executed c.byte [] s := by
  simp [execute, h, refuse, executed, Config.idleByte]

/-- An accepted command without response data. -/
theorem execute_accepted {run : State → CommandOut} {s t : State} (h : run s = accept t) :
    execute run s = executed 0x00 [] t := by
  simp [execute, h, accept, executed, Config.idleByte, ResultCode.byte]

/-- An accepted command with response data. -/
theorem execute_answered {run : State → CommandOut} {s t : State} {d : List Byte} (h : run s = answerWith d t) :
    execute run s = executed 0x00 d t := by
  simp [execute, h, answerWith, executed, Config.idleByte, ResultCode.byte]

/-! ### Memory responses -/

theorem inFlightOf_some {k : ReqKind} {f : InFlight} {s : State} (h : s.inFlight = some f) (hk : f.req.kind = k) :
    inFlightOf k s = some f := by
  simp [inFlightOf, h, hk]

theorem inFlightOf_none {k : ReqKind} {s : State} (h : ∀ f, s.inFlight = some f → f.req.kind ≠ k) :
    inFlightOf k s = none := by
  unfold inFlightOf
  split
  · rename_i f hf
    rw [if_neg (h f hf)]
  · rfl

/-- The error report of the model is the one the statements speak of (R157, R158, R159). -/
theorem reportError_eq (f : InFlight) (s : State) : reportError f s = errorReported f s := by
  unfold reportError errorReported
  split
  · rfl
  · cases he : s.ev.errinfo <;>
      simp [raise, modCounters, he, Event.bit, Counters.addMemoryError, countUp, satInc, Config.countLimit]

/-- The response of the request in flight with OK. -/
theorem takeResponse_ok (f : InFlight) (s : State) : takeResponse f false s = { s with inFlight := none } := rfl

/-- The response of the request in flight with ERROR. -/
theorem takeResponse_error (f : InFlight) (s : State) :
    takeResponse f true s = errorReported f { s with inFlight := none } := by
  rw [← reportError_eq]
  rfl

end Sys2Proof.Machine
end

