-- ==== Sys2Proof/Laws/Queue.lean ====
section
/-! SUPPORT. The queue of batches: which slots stand in it and in which order, the oldest and youngest of a kind, and the
lowest-numbered slot of a state. -/

namespace Sys2Proof.Machine

/-! ### The order -/

theorem mem_slots (i : SlotIx) : i ∈ ([0, 1, 2, 3] : List SlotIx) := by
  revert i
  decide

theorem insertByAge_perm (i : SlotIx) (s : State) (l : List SlotIx) : (insertByAge i s l).Perm (i :: l) := by
  induction l with
  | nil => exact List.Perm.refl _
  | cons j l ih =>
    simp only [insertByAge]
    split
    · exact List.Perm.refl _
    · exact (ih.cons j).trans (List.Perm.swap i j l)

theorem insertByAge_sorted (i : SlotIx) (s : State) {l : List SlotIx}
    (h : l.Pairwise fun a b => slotAge b s ≤ slotAge a s) :
    (insertByAge i s l).Pairwise fun a b => slotAge b s ≤ slotAge a s := by
  induction l with
  | nil => exact List.pairwise_singleton _ _
  | cons j l ih =>
    obtain ⟨hj, hl⟩ := List.pairwise_cons.mp h
    simp only [insertByAge]
    split
    · rename_i hlt
      refine List.pairwise_cons.mpr ⟨fun b hb => ?_, h⟩
      rcases List.mem_cons.mp hb with rfl | hb
      · exact Nat.le_of_lt hlt
      · exact (hj b hb).trans (Nat.le_of_lt hlt)
    · rename_i hge
      refine List.pairwise_cons.mpr ⟨fun b hb => ?_, ih hl⟩
      rcases List.mem_cons.mp ((insertByAge_perm i s l).subset hb) with rfl | hb
      · exact Nat.le_of_not_lt hge
      · exact hj b hb

/-- The slots not FREE, in the order of their numbers. -/
def slotsInFlight (s : State) : List SlotIx := [0, 1, 2, 3].filter fun i => slotState i s != .free

theorem queueOrder_perm (s : State) : (queueOrder s).Perm (slotsInFlight s) := by
  have h : ∀ l : List SlotIx, (l.foldr (fun i l => insertByAge i s l) []).Perm l := by
    intro l
    induction l with
    | nil => exact List.Perm.refl _
    | cons i l ih => exact (insertByAge_perm i s _).trans (ih.cons i)
  exact h _

/-- The queue holds exactly the slots that are not FREE. -/
theorem mem_queueOrder (i : SlotIx) (s : State) : i ∈ queueOrder s ↔ slotState i s ≠ .free := by
  rw [(queueOrder_perm s).mem_iff, slotsInFlight, List.mem_filter]
  simp only [mem_slots, true_and, bne_iff_ne]

theorem queueOrder_nodup (s : State) : (queueOrder s).Nodup := by
  rw [(queueOrder_perm s).nodup_iff]
  exact List.Nodup.filter _ (by decide)

/-- The queue stands oldest first. -/
theorem queueOrder_sorted (s : State) : (queueOrder s).Pairwise fun i k => slotAge k s ≤ slotAge i s := by
  have h : ∀ l : List SlotIx,
      (l.foldr (fun i l => insertByAge i s l) []).Pairwise fun i k => slotAge k s ≤ slotAge i s := by
    intro l
    induction l with
    | nil => exact List.Pairwise.nil
    | cons i l ih => exact insertByAge_sorted i s ih
  exact h _

/-! ### The oldest and the youngest of a kind -/

/-- The first of a list sorted by a relation stands before every other. -/
theorem find_first {α : Type} {r : α → α → Prop} (hr : ∀ a, r a a) (p : α → Bool) {l : List α} {a : α} (h : l.Pairwise r)
    (ha : l.find? p = some a) : (a ∈ l ∧ p a = true) ∧ ∀ b ∈ l, p b = true → r a b := by
  induction l with
  | nil => exact absurd ha (by simp)
  | cons c l ih =>
    obtain ⟨hc, hl⟩ := List.pairwise_cons.mp h
    cases hp : p c with
    | true =>
      obtain rfl : c = a := by simpa [List.find?_cons, hp] using ha
      refine ⟨⟨List.mem_cons_self, hp⟩, fun b hb _ => ?_⟩
      rcases List.mem_cons.mp hb with rfl | hb
      · exact hr _
      · exact hc b hb
    | false =>
      obtain ⟨⟨hm, hpa⟩, hall⟩ := ih hl (by simpa [List.find?_cons, hp] using ha)
      refine ⟨⟨List.mem_cons_of_mem _ hm, hpa⟩, fun b hb hpb => ?_⟩
      rcases List.mem_cons.mp hb with rfl | hb
      · exact absurd hpb (by simp [hp])
      · exact hall b hb hpb

theorem mem_nonOpenQueue (i : SlotIx) (s : State) :
    i ∈ nonOpenQueue s ↔ slotState i s ≠ .free ∧ slotState i s ≠ .opened := by
  simp only [nonOpenQueue, List.mem_filter, mem_queueOrder, bne_iff_ne]

theorem nonOpenQueue_sorted (s : State) : (nonOpenQueue s).Pairwise fun i k => slotAge k s ≤ slotAge i s :=
  (queueOrder_sorted s).filter _

/-- The oldest non-OPEN batch is non-OPEN and in flight, and none such is older. -/
theorem oldestNonOpen_some {s : State} {i : SlotIx} (h : oldestNonOpen s = some i) :
    (slotState i s ≠ .free ∧ slotState i s ≠ .opened)
      ∧ ∀ k, slotState k s ≠ .free → slotState k s ≠ .opened → slotAge k s ≤ slotAge i s := by
  have hf : (nonOpenQueue s).find? (fun _ => true) = some i := by
    rw [← h, oldestNonOpen]
    cases nonOpenQueue s <;> rfl
  obtain ⟨⟨hm, _⟩, hall⟩ :=
    find_first (r := fun a b => slotAge b s ≤ slotAge a s) (fun _ => Nat.le_refl _) _ (nonOpenQueue_sorted s) hf
  exact ⟨(mem_nonOpenQueue i s).mp hm, fun k hk ho => hall k ((mem_nonOpenQueue k s).mpr ⟨hk, ho⟩) rfl⟩

/-- The youngest non-OPEN batch is non-OPEN and in flight, and none such is younger. -/
theorem youngestNonOpen_some {s : State} {i : SlotIx} (h : youngestNonOpen s = some i) :
    (slotState i s ≠ .free ∧ slotState i s ≠ .opened)
      ∧ ∀ k, slotState k s ≠ .free → slotState k s ≠ .opened → slotAge i s ≤ slotAge k s := by
  have hf : (nonOpenQueue s).reverse.find? (fun _ => true) = some i := by
    rw [← h, youngestNonOpen, ← List.head?_reverse]
    cases (nonOpenQueue s).reverse <;> rfl
  obtain ⟨⟨hm, _⟩, hall⟩ :=
    find_first (r := fun a b => slotAge a s ≤ slotAge b s) (fun _ => Nat.le_refl _) _
      (List.pairwise_reverse.mpr (nonOpenQueue_sorted s)) hf
  exact ⟨(mem_nonOpenQueue i s).mp (List.mem_reverse.mp hm),
    fun k hk ho => hall k (List.mem_reverse.mpr ((mem_nonOpenQueue k s).mpr ⟨hk, ho⟩)) rfl⟩

/-- No non-OPEN batch is in flight when there is no oldest one. -/
theorem oldestNonOpen_none {s : State} :
    oldestNonOpen s = none ↔ ∀ k, ¬(slotState k s ≠ .free ∧ slotState k s ≠ .opened) := by
  rw [oldestNonOpen, List.head?_eq_none_iff, List.eq_nil_iff_forall_not_mem]
  simp only [mem_nonOpenQueue]

theorem youngestNonOpen_none {s : State} :
    youngestNonOpen s = none ↔ ∀ k, ¬(slotState k s ≠ .free ∧ slotState k s ≠ .opened) := by
  rw [youngestNonOpen, List.getLast?_eq_none_iff, List.eq_nil_iff_forall_not_mem]
  simp only [mem_nonOpenQueue]

/-- The oldest HELD batch is HELD, and none that is HELD is older. -/
theorem oldestHeld_some {s : State} {i : SlotIx} (h : oldestHeld s = some i) :
    slotState i s = .held ∧ ∀ k, slotState k s = .held → slotAge k s ≤ slotAge i s := by
  obtain ⟨⟨_, hp⟩, hall⟩ :=
    find_first (r := fun a b => slotAge b s ≤ slotAge a s) (fun _ => Nat.le_refl _) _ (queueOrder_sorted s) h
  refine ⟨beq_iff_eq.mp hp, fun k hk => hall k ((mem_queueOrder k s).mpr ?_) (beq_iff_eq.mpr hk)⟩
  rw [hk]
  decide

/-- No batch is HELD when there is no oldest one. -/
theorem oldestHeld_none {s : State} : oldestHeld s = none ↔ ∀ k, slotState k s ≠ .held := by
  simp only [oldestHeld, List.find?_eq_none, mem_queueOrder, beq_iff_eq]
  exact ⟨fun h k hk => h k (by rw [hk]; decide) hk, fun h k _ => h k⟩

/-! ### The lowest-numbered slot of a state -/

theorem lowestSlot_some {p : SlotState → Bool} {s : State} {i : SlotIx} (h : lowestSlot p s = some i) :
    p (slotState i s) = true ∧ ∀ k, p (slotState k s) = true → i ≤ k := by
  have hs : ([0, 1, 2, 3] : List SlotIx).Pairwise (fun a b => a ≤ b) := by decide
  obtain ⟨⟨_, hp⟩, hall⟩ := find_first (r := fun a b => a ≤ b) (fun a => Nat.le_refl a.val) _ hs h
  exact ⟨hp, fun k hk => hall k (mem_slots k) hk⟩

theorem lowestSlot_none {p : SlotState → Bool} {s : State} :
    lowestSlot p s = none ↔ ∀ k, p (slotState k s) = false := by
  simp only [lowestSlot, List.find?_eq_none, Bool.not_eq_true]
  exact ⟨fun h k => h k (mem_slots k), fun h k _ => h k⟩

/-! ### The drain set and the horizon -/

/-- A batch is in the drain set when an end is named and the batch is not younger than it. -/
theorem inDrainSet_iff (q : Half) (s : State) :
    inDrainSet q s = true ↔ ∃ e, s.drain.setEnd = some e ∧ age e s ≤ age q s := by
  unfold inDrainSet
  cases s.drain.setEnd <;> simp

/-- A batch is within the horizon when the horizon names a batch and the batch is not younger than it. -/
theorem inHorizon_iff (q : Half) (s : State) :
    inHorizon q s = true ↔ ∃ h, s.drain.horizon = some h ∧ age h s ≤ age q s := by
  unfold inHorizon
  cases s.drain.horizon <;> simp

/-! ### The words of the ring -/

/-- The words of a ring inside frame memory are those from its base on. -/
theorem mem_ringWords {base a : WordAddr} {size : Nat} (h : base.toNat + 4 * size ≤ 16777216) :
    a ∈ ringWords base size ↔ base.toNat ≤ a.toNat ∧ a.toNat < base.toNat + 4 * size := by
  simp only [ringWords, List.mem_map, List.mem_range]
  constructor
  · rintro ⟨k, hk, rfl⟩
    rw [BitVec.toNat_add, BitVec.toNat_ofNat]
    omega
  · rintro ⟨h1, h2⟩
    refine ⟨a.toNat - base.toNat, by omega, BitVec.eq_of_toNat_eq ?_⟩
    rw [BitVec.toNat_add, BitVec.toNat_ofNat]
    have := a.isLt
    omega

end Sys2Proof.Machine
end

