-- ==== Sys2Proof/Tests/Slice0.lean ====
section
/-! SUPPORT. Tests: the well-formedness checks, one or two steps per command taken from the spec's worked examples and
tables, and for each statement with hypotheses a state and operands that meet them. -/

namespace Sys2Proof.Machine.Tests

/-! ### Helpers -/

/-- The state a command leads to, none when it stops. -/
def after (c : Instr) (s : State) : Option State :=
  match exec c s with
  | .next t => some t
  | .fault _ => none
  | .refused _ => none

/-- One thing read of the state a command leads to. -/
def see {α : Type} (c : Instr) (s : State) (f : State → α) : Option α := (after c s).map f

/-- A state with a setup transaction begun. -/
def tx (s : State) : State := { s with setup.phase := .assembling [] }

/-- The bytes waiting to be shifted out. -/
def response (s : State) : List Byte :=
  match s.setup.phase with
  | .executed out _ => out
  | _ => []

theorem tx_ready (b : Byte) (bs : List Byte) {s : State} (h : s.resetn = true) : portReady (b :: bs) (tx s) :=
  ⟨h, [], rfl, Nat.succ_pos _, rfl⟩

/-- Ring at 0x7F0000 with four records, and the three watched words. -/
def configured : State :=
  { State.reset with
    cfg.ringBase := 0x7F0000
    cfg.ringSize := 4
    cfg.marks := some { close := 0x7FF000, release := 0x7FF001, consumer := 0x7FF002 } }

/-- ENGAGED with sequence 0 OPEN in slot 0 (5.8, step 1), frame counter 7. -/
def engaged : State :=
  { configured with
    part := .engaged
    batch.slots.a0 := freshSlot 0
    batch.seqCounter := 1
    sync.frameCounter := 7 }

/-- A slot with a state and a sequence. -/
def slotWith (st : SlotState) (q : Half) : Slot := { Slot.cleared with state := st, sequence := q }

/-- ENGAGED with four slots as given. -/
def slots (a b c d : Slot) (counter : Half) : State :=
  { configured with part := .engaged, batch.slots := ⟨a, b, c, d⟩, batch.seqCounter := counter }

/-- An entry of a batch slot. -/
def entry (word : WordAddr) (slot : SlotIx) (lanes : LaneMask) (keep flip : Word) : Entry :=
  { word := word, slot := slot, lanes := lanes, xf := { keep := keep, flip := flip } }

/-- A window as WIN_WRITE would store it, enabled. -/
def window (word : WordAddr) (lane : BitVec 2) (width : Half) (f : Format) (m : WinMode) (code : BitVec 4) (key : Bool)
    (value mask : Word) : Window :=
  { enabled := true, originWord := word, originLane := lane, width := width, height := 1, pitch := 1, format := f,
    mode := m, raster := code, keyEnable := key, keyValue := value, keyMask := mask }

/-- The two windows of 4.8.1. -/
def fiveClasses : State :=
  { slots { slotWith .closed 11 with tag := 1 } (slotWith .opened 12) Slot.cleared Slot.cleared 13 with
    cfg.windows := (configured.cfg.windows.set 1 (window 0x020000 0 1 .p8 .direct 0x6 false 0 0xFF)).set 8
      (window 0x020000 1 3 .p8 .defer 0xA true 0x00 0xFF)
    buf := { entries := [entry 0x020000 0 0x8 0x00FFFFFF 0xAB000000], highWater := 1 } }

/-! ### WellFormed: an ill-formed term for each check -/

theorem test_wf_unknown_unassigned : (Instr.unknownCommand 0x06).wellFormed = true := by decide
theorem test_wf_unknown_assigned_refused : (Instr.unknownCommand 0x01).wellFormed = false := by decide
theorem test_wf_counters_plain : (Instr.counters 0x00).wellFormed = true := by decide
theorem test_wf_counters_clear_refused : (Instr.counters 0x01).wellFormed = false := by decide
theorem test_assigned_codes : ∀ b : Byte, assignedCode b = (paramCount b).isSome := by decide

/-! ### The words of the setup port (Tables 11-4, 11-8) -/

theorem test_bytes_winWrite :
    (SetupCommand.winWrite
      { index := 5, originWord := 0x02A100, originLane := 0, width := 4, height := 1, pitch := 1, format := 2, mode := 1,
        raster := 0xA, keyEnable := 1, keyValue := 0x0000F81F, keyMask := 0x0000FFFF }).bytes
      = [0x10, 0x05, 0x02, 0xA1, 0x00, 0x00, 0x00, 0x04, 0x00, 0x01, 0x00, 0x01, 0x02, 0x01, 0x0A, 0x01,
          0x00, 0x00, 0xF8, 0x1F, 0x00, 0x00, 0xFF, 0xFF] := by decide
theorem test_bytes_marks :
    parseCommand [0x20, 0x7F, 0xF0, 0x00, 0x7F, 0xF0, 0x01, 0x7F, 0xF0, 0x02]
      = some (.marks 0x7FF000 0x7FF001 0x7FF002) := by decide
theorem test_bytes_ring : parseCommand [0x21, 0x7F, 0x00, 0x00, 0x02] = some (.ring 0x7F0000 0x02) := by decide
theorem test_bytes_stall : parseCommand [0x23, 0x4E, 0x20] = some (.stall 20000) := by decide
theorem test_no_word_decodes : decodeTableWord 8 0x01 = none := by decide

/-! ### Transforms (2.8, 2.9) and windows (1.2.1, 1.6) -/

theorem test_compose_and_after_or :
    (({ keep := 0xF0, flip := 0x0F } : Transform).andThen { keep := 0x3C, flip := 0x00 })
      = { keep := 0x30, flip := 0x0C } := by decide
theorem test_compose_or_after_and :
    (({ keep := 0x3C, flip := 0x00 } : Transform).andThen { keep := 0xF0, flip := 0x0F })
      = { keep := 0x30, flip := 0x0F } := by decide
theorem test_raster_codes :
    (rasterKeep 0x6 0x5A, rasterFlip 0x6 0x5A) = (0xFF, 0x5A) ∧ (rasterKeep 0xA 0x5A, rasterFlip 0xA 0x5A) = (0x00, 0x5A)
      ∧ (rasterKeep 0xE 0x05, rasterFlip 0xE 0x05) = (0xFA, 0x05)
      ∧ (rasterKeep 0x8 0x3C, rasterFlip 0x8 0x3C) = (0x3C, 0x00) := by decide

/-- W7 of 1.2.1. -/
def stripWindow : Window :=
  { Window.reset with originWord := 0x012000, originLane := 1, width := 6, height := 3, pitch := 4 }

theorem test_membership :
    stripWindow.contains 294913 = true ∧ stripWindow.contains 294912 = false ∧ stripWindow.contains 294918 = true
      ∧ stripWindow.contains 294920 = false ∧ stripWindow.contains 294931 = true
      ∧ stripWindow.contains 294950 = true ∧ stripWindow.contains 294961 = false := by decide

/-- W2 and W5 of 1.6. -/
def overlap : State :=
  { engaged with
    cfg.windows := (configured.cfg.windows.set 2 (window 0x02A100 0 1 .p8 .direct 0x6 false 0 0xFF)).set 5
      (window 0x02A100 0 4 .p16 .defer 0xA true 0x0000F81F 0x0000FFFF) }

theorem test_overlap_write_a :
    classesOf (lanesWork overlap 0x02A100 0xF 0x1234F81F) = ⟨.direct, .keyedOut, .deferred, .deferred⟩ := by decide
theorem test_overlap_write_c :
    classesOf (lanesWork overlap 0x02A100 0x2 0x0000F800) = ⟨.idle, .deferred, .idle, .idle⟩ := by decide

/-! ### The setup port -/

theorem test_transactionStart : see .transactionStart State.reset (·.setup.phase) = some (.assembling []) := by decide
theorem test_transactionStart_reset_low :
    see .transactionStart { State.reset with resetn := false } (·.setup.phase) = some .blocked := by decide
theorem test_transactionEnd :
    see .transactionEnd { State.reset with setup.phase := .assembling [0x10] } (·.setup.phase) = some .noTransaction := by
  decide
theorem test_byte_assembles :
    see (.setupByteShifted 0x05) (tx State.reset) (·.setup.phase) = some (.assembling [0x05]) := by decide
theorem test_byte_executes :
    see (.setupByteShifted 0x81) { State.reset with setup.phase := .assembling [0x05] } (fun t => (t.cfg.mask, response t))
      = some (0x81, [0x00]) := by decide
theorem test_unknown :
    see (.unknownCommand 0x06) (tx State.reset) response = some [0x04] := by decide
theorem test_row_contradicts : after .ident { State.reset with setup.phase := .assembling [0x05] } = none := by decide
theorem test_ident : see .ident (tx State.reset) response = some [0x00, 0x41, 0x28, 0x02] := by decide
theorem test_status :
    see .status (tx engaged) response
      = some [0x00, 0x01, 0x01, 0, 0, 0, 0, 0, 0, 0, 0, 0, 0, 0, 0, 0, 0, 0, 0, 0, 0, 0, 0, 0, 0, 0,
          0x01, 0, 0, 0, 0, 0, 0, 0, 0, 0, 0, 0, 0, 0, 0x07] := by decide
theorem test_events :
    see .events (tx { State.reset with ev.flags := 0x21, cfg.mask := 0x88 }) response = some [0x00, 0x21, 0x88] := by decide
theorem test_clear :
    see (.clear 0x21) (tx { State.reset with ev.flags := 0x23 }) (·.ev.flags) = some 0x02 := by decide
theorem test_mask :
    see (.mask 0x88) (tx { State.reset with ev.flags := 0x08 }) irqLow = some true := by decide
theorem test_counters :
    see (.counters 0x00) (tx { State.reset with buf.highWater := 705, ev.counters.frames := 2 }) response
      = some [0x00, 0, 2, 0, 0, 0, 0, 0, 0, 0, 0, 0, 0, 0, 0, 0, 0, 0x02, 0xC1] := by decide
theorem test_counters_option_range : see (.counters 0x02) (tx State.reset) response = some [0x02] := by decide
theorem test_counters_clear :
    see .countersClear (tx { State.reset with buf.highWater := 705, ev.counters.frames := 2 })
        (fun t => (t.ev.counters.frames, t.buf.highWater)) = some (0, 0) := by decide
theorem test_errinfo :
    see .errinfo (tx { State.reset with ev.errinfo := some { word := 0x123456, requester := .drain, isWrite := false } })
        (fun t => (response t, t.ev.errinfo)) = some ([0x00, 0x01, 0x12, 0x34, 0x56, 0x01, 0x00], none) := by decide
theorem test_softReset_pending : see .softReset (tx engaged) (·.setup.softResetPending) = some true := by decide
theorem test_softReset_taken :
    see .transactionEnd { engaged with setup.phase := .executed [] true, setup.softResetPending := true }
        (fun t => (t.part, t.batch.seqCounter, t.cfg.ringSize)) = some (.pass, 0, 4) := by decide

/-- W3 of 1.2.1: a full frame in P16, written DEFER. -/
def winParams : WinParams :=
  { index := 3, originWord := 0x010000, originLane := 0, width := 480, height := 320, pitch := 120, format := 2, mode := 1,
    raster := 0xA, keyEnable := 0, keyValue := 0, keyMask := 0xFFFFFFFF }

theorem test_winWrite : see (.winWrite winParams) (tx State.reset) (fun t => ((windowAt 3 t).width, response t))
    = some (480, [0x00]) := by decide
theorem test_winWrite_pitch_range :
    see (.winWrite { winParams with pitch := 119 }) (tx State.reset) response = some [0x02] := by decide
theorem test_winRead :
    see (.winRead 0x0F) (tx State.reset) response
      = some [0x00, 0, 0, 0, 0, 0, 0, 4, 0, 1, 0, 1, 1, 0, 0x0A, 0, 0, 0, 0, 0, 0xFF, 0xFF, 0xFF, 0xFF] := by decide
theorem test_winEnable : see (.winEnable 0) (tx State.reset) (fun t => (windowAt 0 t).enabled) = some true := by decide
theorem test_winEnable_conflict :
    see (.winEnable 0) (tx { configured with cfg.marks := some { close := 0, release := 1, consumer := 2 } }) response
      = some [0x05] := by decide
theorem test_winDisable : see (.winDisable 2) (tx overlap) (fun t => (windowAt 2 t).enabled) = some false := by decide
theorem test_winDisable_range : see (.winDisable 16) (tx overlap) response = some [0x02] := by decide
theorem test_marks : see (.marks 1 2 3) (tx configured) (·.cfg.marks)
    = some (some { close := 1, release := 2, consumer := 3 }) := by decide
theorem test_marks_in_ring : see (.marks 1 2 0x7F000F) (tx configured) response = some [0x05] := by decide
theorem test_ring : see (.ring 0x7F0000 0x02) (tx State.reset) (fun t => (t.cfg.ringBase, t.cfg.ringSize))
    = some (0x7F0000, 4) := by decide
theorem test_ring_code_range : see (.ring 0x7F0000 0x01) (tx State.reset) response = some [0x02] := by decide
theorem test_sync : see (.sync 0x01) (tx State.reset) (fun t => (t.cfg.source, t.sync.blanking))
    = some (.blankLow, some true) := by decide
theorem test_sync_engaged : see (.sync 0x01) (tx engaged) response = some [0x03] := by decide
theorem test_tick : see (.tick 100) (tx State.reset) (·.cfg.tick) = some 100 := by decide
theorem test_tick_zero : see (.tick 0) (tx State.reset) response = some [0x02] := by decide
theorem test_stall : see (.stall 500) (tx engaged) (·.cfg.stall) = some 500 := by decide
theorem test_arbitration : see (.arbitration 64) (tx engaged) (·.cfg.share) = some 64 := by decide
theorem test_arbitration_range : see (.arbitration 65) (tx engaged) response = some [0x02] := by decide
theorem test_engage : see .engage (tx configured) (fun t => (t.part, slotState 0 t, t.batch.seqCounter))
    = some (.engaged, .opened, 1) := by decide
theorem test_engage_unconfigured : see .engage (tx State.reset) response = some [0x03] := by decide
theorem test_disengage : see .disengage (tx engaged) (fun t => (t.part, (slotOf 0 t).state, (slotOf 0 t).commandClosed))
    = some (.quiescing, .closed, true) := by decide
theorem test_discard : see .discard (tx { engaged with buf.entries := [entry 5 0 1 0 7] }) (·.buf.entries)
    = some [] := by decide
/-- Step 2 and 3 of 7.7, with a batch that holds an entry. -/
theorem test_flush_pending_close :
    see .flush
        (tx { slots (slotWith .held 50) (slotWith .closed 51) (slotWith .closed 52) (slotWith .opened 53) 54 with
          buf.entries := [entry 5 0 1 0 7] })
        (fun t => (slotState 0 t, t.drain.horizon, t.batch.pendingClose, (slotOf 0 t).forced))
      = some (.draining, some 52, true, true) := by decide

/-! ### Pins and time -/

theorem test_pinReset : see .pinReset { engaged with ev.flags := 0xFF } (fun t => (t.resetn, t.part, t.ev.flags, t.cfg.ringSize))
    = some (false, .pass, 0, 0) := by decide
theorem test_resetnRise :
    see .resetnRise { State.reset with resetn := false, blank := true } (fun t => (t.resetn, t.sync.blanking))
      = some (true, some true) := by decide

/-- A stall with cause (a), one tick below its limit. -/
def nearExpiry : State :=
  { engaged with
    stall := { active := true, cause := .place, limit := 500, elapsed := 499, expired := false, forceCloseOwed := false } }

theorem test_tick_counts : see .timeBaseTick nearExpiry (·.stall.elapsed) = some 500 := by decide
/-- 7.6: the open batch alone in flight is force-closed; empty here, so it drains at once. -/
theorem test_stallExpiry :
    see .stallExpiry { nearExpiry with stall.elapsed := 500 }
        (fun t => (t.ev.flags, slotState 0 t, slotState 1 t, t.ev.counters.stallExpiries))
      = some (0x0C, .free, .opened, 1) := by decide
/-- 5.8, step 4: the drain set ends at the HELD batch, and batch 0 becomes DRAINING. -/
def beforeBlank : State :=
  { slots (slotWith .closed 0) (slotWith .held 1) (slotWith .opened 2) Slot.cleared 3 with
    sync.frameCounter := 7
    buf.entries := [entry 5 0 1 0 7] }

theorem test_blankStart :
    see .blankStart beforeBlank (fun t => (slotState 0 t, slotState 1 t, t.drain.setEnd, t.sync.frameCounter))
      = some (.draining, .held, some 0, 8) := by decide
theorem test_blankPinChange : see (.blankPinChange true) beforeBlank (fun t => (slotState 0 t, t.blank))
    = some (.draining, true) := by decide
theorem test_blankEnd : see .blankEnd { State.reset with blank := true, sync.blanking := some true } (·.sync.blanking)
    = some (some false) := by decide

/-! ### The system port -/

/-- Memory read of a word with an undetermined composition: not answered yet. -/
theorem test_systemRead_waits :
    see (.systemRead 0x020000 0xF) fiveClasses (fun t => (systemRequest t).map (·.kind)) = some (some .systemRead) := by
  decide
/-- 3.8, step 3: a fully forwarded read. -/
theorem test_systemRead_forwarded :
    see (.systemRead 0x010040 0xF) { engaged with buf.entries := [entry 0x010040 0 0xF 0 0x44332211] } (·.sysAnswer)
      = some (some (.data 0x44332211)) := by decide
/-- 4.8.1: the five classes. -/
theorem test_five_classes :
    classesOf (lanesWork fiveClasses 0x020000 0xF 0x77005A3C) = ⟨.direct, .deferred, .keyedOut, .carried⟩ := by decide
theorem test_systemWrite_reserves :
    see (.systemWrite 0x020000 0xF 0x77005A3C) fiveClasses (fun t => (reservationHeld t, (systemRequest t).map (·.kind)))
      = some (true, some .destinationRead) := by decide
/-- 5.8, step 3: a close store with a hold request. -/
theorem test_systemWrite_close :
    see (.systemWrite 0x7FF000 0xF 0x00000122) engaged
        (fun t => ((slotOf 0 t).state, (slotOf 0 t).tag, (slotOf 0 t).closeFrame, slotState 1 t, t.batch.seqCounter))
      = some (.held, 0x22, 7, .opened, 2) := by decide

/-- A state in which a request of a kind is in flight. -/
def flying (k : ReqKind) (word : WordAddr) (s : State) : State :=
  { s with inFlight := some { req := { kind := k, word := word, lanes := 0xF, data := 0 }, cutOff := false } }

/-- The write of 4.8.1 with its destination read in flight. -/
def destinationFlying : State :=
  flying .destinationRead 0x020000
    { fiveClasses with
      sys := .write { classifiedJob fiveClasses 0x020000 0xF 0x77005A3C with reserved := true, phase := .destInFlight } }

/-- 4.8.1, steps 3 and 4. -/
theorem test_destinationRead_commits :
    see (.destinationReadResponse (.ok 0x11223344)) destinationFlying
        (fun t => (t.buf.entries.getLast?, (systemRequest t).map fun q => (q.lanes, q.data)))
      = some (some (entry 0x020000 1 0xA 0x00FF00FF 0x77005A00), some (0x1, 0x00000078)) := by decide
/-- R71: DISENGAGE marks a write that stands in its destination read. -/
theorem test_disengage_in_destination_read :
    see .disengage (tx destinationFlying) (fun t => match t.sys with | .write w => w.leftEngaged | _ => false)
      = some true := by decide
/-- The write of 4.8.1 whose destination read DISENGAGE has reached. -/
def leftJob : WriteJob :=
  { classifiedJob fiveClasses 0x020000 0xF 0x77005A3C with reserved := true, leftEngaged := true, phase := .destInFlight }
/-- R44, R71: its commit makes no entry, though ENGAGE has opened a batch since; the write goes to memory plain. -/
theorem test_destinationRead_after_disengage :
    see (.destinationReadResponse (.ok 0x11223344)) { destinationFlying with sys := .write leftJob }
        (fun t => (t.buf.entries.length, (systemRequest t).map fun q => (q.lanes, q.data)))
      = some (1, some (0xF, 0x77005A3C)) := by decide
theorem test_destinationRead_error :
    see (.destinationReadResponse .error) destinationFlying (fun t => (t.sysAnswer, t.ev.flags, t.buf.entries.length))
      = some (some .error, 0x20, 1) := by decide
/-- 4.8.1: the read of the word composes slot 0 and then slot 1. -/
theorem test_systemRead_answer :
    see (.systemReadResponse (.ok 0x11223378))
        (flying .systemRead 0x020000
          { fiveClasses with
            sys := .read
              { word := 0x020000, lanes := 0xF, forwarded := true, granted := true,
                snapshot := ({ keep := 0x00FFFFFF, flip := 0xAB000000 } : Transform).andThen
                  { keep := 0x00FF00FF, flip := 0x77005A00 } } })
        (·.sysAnswer) = some (some (.data 0x77225A78)) := by decide
theorem test_immediateWrite_answer :
    see (.immediateWriteResponse .error)
        (flying .immediateWrite 5
          { engaged with sys := .write { plainStore 5 7 none false with phase := .writeInFlight } })
        (fun t => (t.sysAnswer, t.ev.errinfo))
      = some (some .error, some { word := 5, requester := .system, isWrite := true }) := by decide
theorem test_response_without_request : after (.immediateWriteResponse .ok) engaged = none := by decide

/-! ### The refresh port -/

theorem test_refreshRead : see (.refreshRead 9 0x3) engaged (·.refresh) = some (.waiting 9 0x3) := by decide
theorem test_refreshWrite : see (.refreshWrite 9 0x3) engaged (fun t => (t.refreshAnswer, t.refresh, t.ev.flags))
    = some (some .error, .idle, 0) := by decide
theorem test_refreshRead_answer :
    see (.refreshReadResponse (.ok 0xCAFE)) (flying .refreshRead 9 { engaged with refresh := .inFlight }) (·.refreshAnswer)
      = some (some (.data 0xCAFE)) := by decide

/-! ### The arbiter, the drain engine and the record writer -/

/-- Decision 4 of 9.6: drain, system and record waiting, the record wait at 32. -/
def decision4 : State :=
  { slots (slotWith .draining 3) (slotWith .opened 4) Slot.cleared Slot.cleared 5 with
    cfg.share := 3
    sync.blanking := some true
    buf.entries := [entry 5 0 1 0xFFFFFF00 7]
    drain.current := some 0
    drain.entry := some (entry 5 0 1 0xFFFFFF00 7)
    drain.access := .writeRequested
    sys := .write (plainStore 9 7 none false)
    recs.records := [(slotWith .closed 2).toRec]
    recs.writer := .requested .word1
    waits := { record := 32, drain := 0, system := 3 } }

theorem test_arbiter_record_first :
    see .arbiterGrant decision4 (fun t => (t.inFlight.map (·.req.kind), t.waits))
      = some (some .recordWrite, { record := 0, drain := 0, system := 3 }) := by decide
/-- Decision 5 of 9.6: the system path has reached SHARE. -/
theorem test_arbiter_share :
    see .arbiterGrant { decision4 with waits.record := 0 } (fun t => (t.inFlight.map (·.req.kind), t.waits))
      = some (some .immediateWrite, { record := 1, drain := 1, system := 0 }) := by decide

/-- 6.10.1: the entry e2 with its destination read in flight. -/
def e2Flying : State :=
  flying .drainRead 0x200
    { slots (slotWith .draining 20) (slotWith .opened 21) Slot.cleared Slot.cleared 22 with
      buf.entries := [entry 0x200 0 0x2 0xFFFF0FFF 0x0000A000]
      drain.current := some 0
      drain.entry := some (entry 0x200 0 0x2 0xFFFF0FFF 0x0000A000)
      drain.access := .readInFlight }

theorem test_drainRead_answer :
    see (.drainReadResponse (.ok 0x12345678)) e2Flying (fun t => (drainRequest t).map fun q => (q.lanes, q.data))
      = some (some (0x2, 0x0000A600)) := by decide
theorem test_drainRead_error :
    see (.drainReadResponse .error) e2Flying
        (fun t => (t.buf.entries, slotState 0 t, t.recs.records.map (fun r => (r.memErrors, r.entriesDrained))))
      = some ([], .free, [(1, 1)]) := by decide
/-- The last write of a batch answered: the batch completes and its record is queued (6.10.1). -/
theorem test_drainWrite_answer :
    see (.drainWriteResponse .ok) (flying .drainWrite 0x200 { e2Flying with buf.entries := [], drain.access := .writeInFlight })
        (fun t => (slotState 0 t, t.recs.records.length, t.drain.current, t.recs.writer))
      = some (.free, 1, none, .requested .word1) := by decide
/-- 8.9, step 6: the writer goes on to the next word. -/
theorem test_recordWrite_answer :
    see (.recordWriteResponse .ok)
        (flying .recordWrite 0x7F0001
          { decision4 with recs.writer := .inFlight .word1, recs.prod := 4, recs.cons := 2 })
        (fun t => (recordRequest t).map (·.word)) = some (some 0x7F0002) := by decide
/-- Table 11-3: the four words of a record. -/
theorem test_record_words :
    let b : Slot := { Slot.cleared with
      sequence := 22, tag := 0x33, wasHeld := true, torn := true, memErr := true, entriesDrained := 700, rmwCount := 3,
      memErrors := 1, frameAtStart := 43, drainTime := 719 }
    (b.toRec.word0 4 2, b.toRec.word1, b.toRec.word2, b.toRec.word3)
      = (0x01020004, 0x0D330016, 0x000302BC, 0x02CF002B) := by decide
/-- 8.9, steps 8 and 10: a consumer store past the limit. -/
theorem test_consumer_refused :
    see (.systemWrite 0x7FF002 0xF 0x00000009) { engaged with recs.prod := 6, recs.cons := 2 }
        (fun t => (t.recs.cons, t.ev.flags)) = some (2, 0x40) := by decide

/-! ### Witnesses: for each statement with hypotheses, states and operands that meet them, clause by clause -/

/-- ENGAGED with an entry, a drain under way, a queued record and a write waiting at the queue's front. -/
def busy : State :=
  { decision4 with
    cfg.windows := configured.cfg.windows.set 0 (window 0x100 0 4 .p8 .defer 0x6 false 0 0xFF)
    sys := .idle
    buf.highWater := 1
    waits := { record := 32, drain := 65535, system := 3 }
    pending := [.systemWrite 0x100 0xF 0x01020304] }

theorem witness_StepRunsFrontCommand : State.reset.pending = [] := by decide

theorem witness_StepKeepsHoldBuffer : bufferWf busy ∧ (after (.systemWrite 0x100 0xF 0x01020304) busy).isSome = true := by
  unfold bufferWf Entry.wf
  decide
theorem witness_StepKeepsCapacity :
    capacityWf busy ∧ capacityWf { State.reset with buf.highWater := 1024 } := by
  unfold capacityWf
  decide
theorem witness_StepKeepsRecords :
    (recordQueueWf busy ∧ ringRoomWf busy)
      ∧ (let s := { busy with recs.prod := 3, recs.cons := 0 }; recordQueueWf s ∧ ringRoomWf s)
      ∧ (let s := { busy with recs.writer := .idle, recs.prod := 2, recs.cons := 65534 }; recordQueueWf s ∧ ringRoomWf s) := by
  unfold recordQueueWf ringRoomWf ringSizeWf
  decide
theorem witness_StepKeepsBatches : batchesWf busy := by
  refine ⟨⟨by decide, by decide⟩, ?_, fun h => absurd h (by decide)⟩
  unfold drainingWf
  decide
theorem witness_EngineTestLeavesNothingToStart :
    startChoice { beforeBlank with drain.setEnd := some 0, buf.entries := [] } = some (0, false)
      ∧ oldestEntry 0 { beforeBlank with drain.setEnd := some 0, buf.entries := [] } = none := by decide
theorem witness_StepKeepsWindows : windowsLegal busy ∧ windowsApart busy ∧ settingsWf busy := by
  refine ⟨by unfold windowsLegal; decide, fun i h w hw => ?_, by unfold settingsWf; decide⟩
  have key : ∀ j : Fin 16, (windowAt j busy).enabled = true →
      (protectedWords busy.cfg).all (fun w => !(windowAt j busy).covers w) = true := by decide
  simpa using List.all_eq_true.1 (key i h) w hw
theorem witness_StepKeepsEntriesPlaced : entriesPlaced busy ∧ entriesPlaced configured ∧ batchesWf busy := by
  refine ⟨?_, ?_, witness_StepKeepsBatches⟩ <;> unfold entriesPlaced <;> decide
/-- Without a write in progress and without a request in flight, and with a write in its destination read. -/
theorem witness_StepKeepsEntriesApart :
    (entriesApart busy ∧ entriesPlaced busy ∧ batchesWf busy ∧ windowsApart busy) ∧ entriesApart destinationFlying := by
  have idle : busy.sys = .idle := by decide
  have quiet : busy.inFlight = none := by decide
  refine ⟨⟨⟨by decide, fun w h => ?_, fun f h => ?_⟩, witness_StepKeepsEntriesPlaced.1, witness_StepKeepsBatches,
    witness_StepKeepsWindows.2.1⟩, by decide, fun w h _ => ?_, fun f h _ => ⟨_, rfl, by decide⟩⟩
  · rw [idle] at h
    cases h
  · rw [quiet] at h
    cases h
  · obtain rfl := SysPort.write.inj h
    decide
theorem witness_StepKeepsCounts :
    countersWf busy ∧ countsWf busy ∧ stallTimerWf busy ∧ stallTimerWf { nearExpiry with stall.elapsed := 500 } := by
  unfold countersWf countsWf stallTimerWf
  decide

theorem witness_ConfigurationChangesOnlyByItsCommands : see (.mask 0x81) (tx engaged) (·.cfg.mask) = some 0x81
    ∧ see .pinReset engaged (·.cfg.ringSize) = some 0 := by decide
theorem witness_PartStateTransitions :
    configured.part = .pass ∧ see .engage (tx configured) (·.part) = some .engaged
      ∧ engaged.part = .engaged ∧ see .disengage (tx engaged) (·.part) = some .quiescing := by decide
/-- Into PASS: a DISENGAGE whose drain ends in its step, the byte that spells it, and a soft reset; 0x30 spells ENGAGE. -/
theorem witness_PartStateTransitions_pass :
    (let s := tx { engaged with cfg.source := .immediate };
      see .disengage s (fun t => (t.part, allFree t)) = some (.pass, true)
        ∧ see (.setupByteShifted 0x31) s (fun t => (t.part, allFree t)) = some (.pass, true))
      ∧ see .transactionEnd { engaged with setup.phase := .executed [] true, setup.softResetPending := true } (·.part)
          = some .pass
      ∧ see .blankStart { engaged with part := .quiescing, batch.slots.a0 := slotWith .closed 0 }
          (fun t => (t.part, allFree t)) = some (.pass, true)
      ∧ see (.setupByteShifted 0x30) (tx configured) (·.part) = some .engaged := by decide
theorem witness_FlagsStaySet :
    see (.refreshWrite 1 1) { engaged with ev.flags := 0xFF } (·.ev.flags) = some 0xFF := by decide

/-- The drain of e1 (write only) or of e2 (after its read) of 6.10.1, its write waiting alone at the arbiter. -/
def drainWaiting (e : Entry) (d : Option Word) : State :=
  { slots (slotWith .draining 20) (slotWith .opened 21) Slot.cleared Slot.cleared 22 with
    buf.entries := [e, entry 0x200 1 0x1 0xFFFFFFFF 0x00000001]
    drain.current := some 0
    drain.entry := some e
    drain.access := .writeRequested
    drain.readData := d }

theorem idle_waits {s : State} (h : s.sys = .idle) : waitsForNoPlace s := by
  intro w hw
  rw [h] at hw
  cases hw

/-- The premises of DrainGrantKeepsSystemView at a state, an entry and a memory word. -/
def drainPremises (s : State) (e : Entry) (old : Word) : Prop :=
  bufferWf s ∧ waitsForNoPlace s ∧ s.inFlight = none ∧ choose s = some .drain ∧ s.drain.current = some 0
    ∧ s.drain.entry = some e ∧ s.drain.access = .writeRequested ∧ (drainRequest s).isSome = true
    ∧ findEntry e.word 0 s = some e ∧ (queueOrder s).head? = some 0
    ∧ (e.xf.needsRead e.lanes = true → s.drain.readData.map (· &&& laneBits e.lanes) = some (old &&& laneBits e.lanes))
    ∧ (after .arbiterGrant s).isSome = true

theorem witness_DrainGrantKeepsSystemView_written :
    drainPremises (drainWaiting (entry 0x200 0 0xF 0 0x0A0B0C0D) none) (entry 0x200 0 0xF 0 0x0A0B0C0D) 0x12345678 := by
  refine ⟨?_, idle_waits rfl, ?_⟩
  · unfold bufferWf Entry.wf
    decide
  · decide
theorem witness_DrainGrantKeepsSystemView_read :
    drainPremises (drainWaiting (entry 0x200 0 0x2 0xFFFF0FFF 0x0000A000) (some 0x12345678))
      (entry 0x200 0 0x2 0xFFFF0FFF 0x0000A000) 0x12345678 := by
  refine ⟨?_, idle_waits rfl, ?_⟩
  · unfold bufferWf Entry.wf
    decide
  · decide

theorem witness_TransformApplies :
    let t : Transform := { keep := 0xFFFF01FF, flip := 0x00770000 }
    laneByte { t with keep := 0xFFFF00FF }.keep 1 = 0#8 ∧ laneByte t.keep 1 ≠ 0#8 ∧ t.isIdentityOn 3 = true
      ∧ t.isIdentityOn 0 = true := by decide
theorem witness_RasterPairsCarryTheCode :
    hasLane 0xF 3 = true ∧ resolve overlap (bytePosition 0x02A100 3) = (overlap.cfg.windows.toList)[5]?
      ∧ (windowAt 5 overlap).keyMatches 0xF 0x1234F81F 3 = false
      ∧ resolve overlap (bytePosition 0x02A100 0) = some (windowAt 2 overlap)
      ∧ (windowAt 2 overlap).keyMatches 0xF 0x1234F81F 0 = false := by decide
theorem witness_LaneClassTable :
    hasLane 0xE 0 = false ∧ hasLane 0xE 3 = true ∧ resolve overlap (bytePosition 0x02A101 0) = none
      ∧ resolve overlap (bytePosition 0x02A100 1) = some (windowAt 5 overlap)
      ∧ (windowAt 5 overlap).keyMatches 0xF 0x1234F81F 1 = true
      ∧ (windowAt 5 overlap).keyMatches 0xF 0x1234F81F 2 = false := by decide
theorem witness_WindowMembershipResolutionAndKey :
    1 < stripWindow.height.toNat ∧ (windowAt 5 overlap).height.toNat ≤ 1 ∧ stripWindow.covers 0x012000 = true
      ∧ (windowAt 2 overlap).format = .p8 ∧ (windowAt 5 overlap).format = .p16
      ∧ ({ windowAt 5 overlap with format := .p32 } : Window).keyMatches 0xF 0x0000F81E 2 = false
      ∧ ({ windowAt 5 overlap with format := .p32 } : Window).keyMatches 0xF 0x1234F81F 2 = true
      ∧ resolve overlap (bytePosition 0x02A101 0) = none := by decide
theorem witness_SetupBytesShiftedIn :
    (SetupCommand.stall 20000).bytes[0]? = some 0x23 ∧ (SetupCommand.stall 20000).bytes[2]? = some 0x20
      ∧ (tx State.reset).setup.phase = .assembling ((SetupCommand.stall 20000).bytes.take 0)
      ∧ { State.reset with setup.phase := .assembling [0x23, 0x4E] }.setup.phase
          = .assembling ((SetupCommand.stall 20000).bytes.take 2)
      ∧ see (.setupByteShifted 0x00) { State.reset with setup.phase := .executed [0x00, 0x41] false } (·.setup.sdo)
          = some (some 0x00)
      ∧ see (.setupByteShifted 0x00) { State.reset with setup.phase := .executed [] true } (·.setup.sdo)
          = some (some 0xFF)
      ∧ (tx State.reset).resetn = true ∧ assignedCode 0x06 = false ∧ (tx State.reset).setup.phase = .assembling []
      ∧ see (.setupByteShifted 0x06) (tx State.reset) response = some [0x04] := by decide
theorem witness_CommandRowsExecute :
    (Instr.setupCommand (.stall 20000) = some (.stall 20000) ∧ portReady (SetupCommand.stall 20000).bytes (tx State.reset))
      ∧ portReady (SetupCommand.stall 20000).bytes { State.reset with setup.phase := .assembling [0x23, 0x4E] }
      ∧ assignedCode 0x7E = false ∧ portReady [0x7E] (tx State.reset) :=
  ⟨⟨rfl, tx_ready _ _ rfl⟩, ⟨rfl, [0x23, 0x4E], rfl, by decide, by decide⟩, by decide, tx_ready _ _ rfl⟩
/-- R141, R137: a record in progress and none; the legal and an illegal window; a record field by field. -/
theorem test_named_values :
    recordInProgress { engaged with recs.writer := .inFlight .word0 } = false
      ∧ recordInProgress { engaged with recs.writer := .inFlight .word3 } = true
      ∧ Window.reset.legal = true ∧ { Window.reset with width := 0 }.legal = false
      ∧ ({ slotWith .draining 7 with tag := 3, drainTime := 9 } : Slot).toRec.drainTime = 9 := by decide
theorem witness_RowsWithoutEffectAndStops :
    (State.reset.setup.phase = .noTransaction ∧ { State.reset with resetn := false }.resetn = false
      ∧ { State.reset with setup.phase := .blocked }.setup.phase = .blocked
      ∧ see .ident { State.reset with setup.phase := .executed [0x00, 0x41] false } (·.setup.sdo) = some (some 0x00)
      ∧ ¬nearExpiry.stall.limit.toNat ≤ nearExpiry.stall.elapsed.toNat ∧ { State.reset with cfg.source := .immediate }.cfg.source = .immediate
      ∧ destinationFlying.sys ≠ .idle ∧ { engaged with refresh := .waiting 9 3 }.refresh ≠ .idle)
      ∧ ¬([0x05#8].length < SetupCommand.ident.bytes.length ∧ [0x05#8] = SetupCommand.ident.bytes.take 1)
      ∧ ¬([0x23#8, 0x4F].length < (SetupCommand.stall 20000).bytes.length
          ∧ [0x23#8, 0x4F] = (SetupCommand.stall 20000).bytes.take 2)
      ∧ assignedCode 0x7F = true ∧ engaged.inFlight = none
      ∧ inFlightOf .drainWrite (flying .drainRead 1 engaged) = none := by decide
theorem witness_TransactionStartAndEnd :
    State.reset.setup.phase = .noTransaction ∧ (tx State.reset).setup.phase ≠ .noTransaction
      ∧ see .transactionEnd { engaged with setup.phase := .executed [0x00] false, setup.softResetPending := true } (·.part)
          = some .engaged := by decide
/-- A soft reset that takes effect at the next CSn rise, with a write in progress. -/
def resetDue (w : WriteJob) : State :=
  { engaged with setup.phase := .executed [] true, setup.softResetPending := true, sys := .write w }
/-- A consumer store that waits at the arbiter. -/
def consumerStore (data : Word) : WriteJob := plainStore 0x7FF002 data (some .consumer) false

theorem witness_SoftResetAndItsWrites :
    (resetDue (consumerStore 0)).setup.phase = .executed [] true ∧ (resetDue (consumerStore 0)).setup.softResetPending = true
      ∧ (resetDue (consumerStore 0)).sys = .write (consumerStore 0) ∧ (consumerStore 0).mark = some .consumer
      ∧ (consumerStore 0).phase ≠ .writeInFlight ∧ ({ consumerStore 0 with phase := .writeInFlight }).phase = .writeInFlight
      ∧ (plainStore 1 2 none false).mark ≠ some .consumer
      ∧ ({ plainStore 1 2 none false with phase := .waitPlace } : WriteJob).phase ≠ .destRequested := by decide
/-- The mark of a store that a reset completes as plain stays (log entry 28). -/
theorem test_reset_keeps_mark : (consumerStore 5).afterReset.mark = some .consumer := by decide
/-- R143 after a soft reset: against P = C = 0 and a ring of 4, the counts 0 and 65532 stand, 65531 and 1 do not. -/
theorem witness_SoftResetAndItsWrites_consumer :
    ((0#16 - 0x0000#16).toNat ≤ 4 ∧ (0#16 - 0xFFFC#16).toNat ≤ 4 ∧ 4 < (0#16 - 0xFFFB#16).toNat
        ∧ 4 < (0#16 - 0x0001#16).toNat)
      ∧ see .transactionEnd (resetDue (consumerStore 0)) (fun t => (t.recs.cons, t.ev.flags)) = some (0, 0)
      ∧ see .transactionEnd (resetDue (consumerStore 0xFFFC)) (fun t => (t.recs.cons, t.ev.flags)) = some (0xFFFC, 0)
      ∧ see .transactionEnd (resetDue (consumerStore 0xFFFB)) (fun t => (t.recs.cons, t.ev.flags)) = some (0, 0x40)
      ∧ see .transactionEnd (resetDue { consumerStore 0xFFFC with phase := .writeInFlight }) (·.recs.cons) = some 0 := by
  decide
theorem witness_IdentAnswers :
    portReady [0x01] (tx State.reset) ∧ portReady [0x01] (tx engaged) ∧ { engaged with resetn := false }.resetn = false :=
  ⟨tx_ready _ _ rfl, tx_ready _ _ rfl, rfl⟩
theorem witness_StatusAndEventRegisters :
    portReady [0x02] (tx engaged) ∧ portReady [0x03] (tx engaged) ∧ portReady [0x04, 0xFF] (tx engaged)
      ∧ portReady [0x05, 0x81] (tx engaged) ∧ irqLow { State.reset with ev.flags := 0x80, cfg.mask := 0x80 } = true
      ∧ irqLow { State.reset with ev.flags := 0x01, cfg.mask := 0x80 } = false :=
  ⟨tx_ready _ _ rfl, tx_ready _ _ rfl, tx_ready _ _ rfl, tx_ready _ _ rfl, by decide, by decide⟩
theorem witness_CountersAndErrinfoAnswer :
    portReady [0x40, 0x00] (tx engaged) ∧ portReady [0x40, 0x01] (tx engaged) ∧ portReady [0x40, 0x02] (tx engaged)
      ∧ portReady [0x41] (tx engaged) ∧ engaged.ev.errinfo = none
      ∧ (tx { engaged with ev.errinfo := some { word := 1, requester := .record, isWrite := true } }).ev.errinfo
          = some { word := 1, requester := .record, isWrite := true } :=
  ⟨tx_ready _ _ rfl, tx_ready _ _ rfl, tx_ready _ _ rfl, tx_ready _ _ rfl, rfl, rfl⟩
theorem witness_SettingsCommands :
    portReady (0x23 :: bytes16 0) (tx engaged) ∧ portReady [0x24, 0x40] (tx engaged) ∧ portReady [0x7F] (tx engaged)
      ∧ portReady [0x22, 0x03] (tx State.reset) ∧ portReady [0x25, 0x00] (tx State.reset)
      ∧ State.reset.part = .pass ∧ engaged.part ≠ .pass ∧ 2 < (0x03 : Byte).toNat
      ∧ see (.sync 0x02) (tx State.reset) (·.sync.blanking) = some none
      ∧ see (.tick 0xFF) (tx State.reset) response = some [0x00] :=
  ⟨tx_ready _ _ rfl, tx_ready _ _ rfl, tx_ready _ _ rfl, tx_ready _ _ rfl, tx_ready _ _ rfl, by decide, by decide, by decide,
    by decide, by decide⟩
theorem witness_WinWriteAndWinRead :
    portReady (SetupCommand.winWrite winParams).bytes (tx State.reset) ∧ winParams.index.toNat = (3 : Fin 16).val
      ∧ (windowAt 3 State.reset).enabled = false
      ∧ ((winParams.format.toNat = 1 ∨ winParams.format.toNat = 2 ∨ winParams.format.toNat = 4)
          ∧ winParams.originLane.toNat % 2 = 0 ∧ winParams.width.toNat % 2 = 0 ∧ 1 < winParams.height.toNat
          ∧ winParams.width.toNat ≤ 4 * winParams.pitch.toNat
          ∧ 4 * winParams.originWord.toNat + winParams.originLane.toNat
              + (winParams.height.toNat - 1) * 4 * winParams.pitch.toNat + winParams.width.toNat - 1 < 67108864
          ∧ winParams.mode.toNat ≤ 1 ∧ winParams.raster.toNat ≤ 15 ∧ winParams.keyEnable.toNat ≤ 1)
      ∧ ¬1 ≤ ({ winParams with height := 0 } : WinParams).height.toNat
      ∧ (windowAt 2 overlap).enabled = true ∧ 16 ≤ ({ winParams with index := 16 } : WinParams).index.toNat
      ∧ portReady [0x11, 0x0F] (tx overlap) ∧ (0x0F : Byte).toNat = (15 : Fin 16).val ∧ 16 ≤ (0x10 : Byte).toNat :=
  ⟨tx_ready _ _ rfl, by decide, by decide, by decide, by decide, by decide, by decide, tx_ready _ _ rfl, by decide, by decide⟩
/-- Watched words that window 0 covers. -/
def underWindow : State := { configured with cfg.marks := some { close := 0, release := 1, consumer := 2 } }
theorem witness_WinEnableChecks :
    portReady [0x12, 0x00] (tx underWindow) ∧ (windowAt 0 underWindow).enabled = false
      ∧ (protectedWords underWindow.cfg).any (windowAt 0 underWindow).covers = true
      ∧ (protectedWords configured.cfg).any (windowAt 0 configured).covers = false
      ∧ portReady [0x12, 0x02] (tx overlap) ∧ (windowAt 2 overlap).enabled = true ∧ 16 ≤ (0x10 : Byte).toNat :=
  ⟨tx_ready _ _ rfl, by decide, by decide, by decide, tx_ready _ _ rfl, by decide, by decide⟩
/-- The protected words at the ends of the ring, of the last ring of frame memory and of an empty one; a covered word. -/
theorem witness_WinEnableChecks_words :
    (let c := configured.cfg;
      c.ringBase.toNat + 4 * c.ringSize ≤ 16777216 ∧ 0x7F0000 ∈ protectedWords c ∧ 0x7F000F ∈ protectedWords c
        ∧ 0x7EFFFF ∉ protectedWords c ∧ 0x7F0010 ∉ protectedWords c ∧ 0x7FF002 ∈ protectedWords c)
      ∧ (0xFFFFFC#24).toNat + 4 * 1 ≤ 16777216 ∧ 0xFFFFFF#24 ∈ ringWords 0xFFFFFC 1 ∧ 0#24 ∉ ringWords 0xFFFFFC 1
      ∧ (0xFFFFFF#24).toNat + 4 * 0 ≤ 16777216 ∧ 0xFFFFFF#24 ∉ ringWords 0xFFFFFF 0
      ∧ protectedWords State.reset.cfg = [] ∧ (windowAt 2 overlap).enabled = true
      ∧ (windowAt 2 overlap).covers 0x02A100 = true ∧ windowCovers State.reset.cfg 0 = false := by decide
theorem witness_WinDisableRemoves :
    portReady [0x13, 0x02] (tx overlap) ∧ (0x02 : Byte).toNat = (2 : Fin 16).val ∧ 16 ≤ (0x10 : Byte).toNat
      ∧ resolve overlap (bytePosition 0x02A100 0) = some (windowAt 2 overlap) ∧ portReady [0x11, 0x02] (tx overlap) :=
  ⟨tx_ready _ _ rfl, by decide, by decide, by decide, tx_ready _ _ rfl⟩
theorem witness_MarksChecks :
    portReady (0x20 :: (bytes24 1 ++ bytes24 2 ++ bytes24 0x7F000F)) (tx configured) ∧ configured.part = .pass
      ∧ engaged.part ≠ .pass ∧ inRing 0x7F0000 4 0x7F000F = true ∧ inRing 0x7F0000 4 0x7F0010 = false
      ∧ see (.marks 1 2 0x7F0010) (tx configured) response = some [0x00]
      ∧ see (.marks 1 2 1) (tx configured) response = some [0x05] :=
  ⟨tx_ready _ _ rfl, rfl, by decide, by decide, by decide, by decide, by decide⟩
theorem witness_RingChecks :
    portReady (0x21 :: (bytes24 0xFFFC00 ++ [0x08])) (tx configured) ∧ configured.part = .pass
      ∧ configured.recs.records = [] ∧ configured.recs.writer = .idle
      ∧ see (.ring 0x7F0000 0x08) (tx { configured with recs.records := [(slotWith .closed 1).toRec] }) response = some [0x01]
      ∧ see (.ring 0x7F0000 0x09) (tx configured) response = some [0x02]
      ∧ see (.ring 0x7F0001 0x02) (tx configured) response = some [0x02]
      ∧ see (.ring 0x7FEFF0 0x03) (tx configured) response = some [0x05]
      ∧ see (.ring 0xFFFFF0 0x02) (tx configured) response = some [0x00]
      ∧ see (.ring 0xFFFFF4 0x02) (tx configured) response = some [0x02]
      ∧ see (.ring 0x7F0000 0x00) (tx configured) (·.cfg.ringSize) = some 0 :=
  ⟨tx_ready _ _ rfl, rfl, rfl, rfl, by decide, by decide, by decide, by decide, by decide, by decide, by decide⟩
theorem witness_EngageOpensSlotZero :
    portReady [0x30] (tx configured) ∧ configured.part = .pass ∧ configured.cfg.ringSize ≠ 0 ∧ configured.cfg.marks ≠ none
      ∧ engaged.part ≠ .pass ∧ State.reset.cfg.ringSize = 0 ∧ State.reset.cfg.marks = none :=
  ⟨tx_ready _ _ rfl, by decide, by decide, by decide, by decide, by decide, by decide⟩
/-- ENGAGED with a write in a phase. -/
def writing (ph : WritePhase) : State := { engaged with sys := .write { plainStore 1 2 none false with phase := ph } }
theorem witness_DisengageClosesAndKeepsStalls :
    configured.part ≠ .engaged ∧ portReady [0x31] (tx configured)
      ∧ (∀ ph, portReady [0x31] (tx (writing ph)) ∧ (writing ph).part = .engaged ∧ openSlot (writing ph) = some 0
          ∧ ∃ w, (writing ph).sys = .write w ∧ w.phase = ph ∧ w.immediateLanes ≠ 0#4)
      ∧ engaged.sys = .idle ∧ engaged.stall.expired = false ∧ { engaged with stall.expired := true }.stall.expired = true :=
  ⟨by decide, tx_ready _ _ rfl, fun ph => ⟨tx_ready _ _ rfl, rfl, rfl, _, rfl, rfl, by cases ph <;> decide⟩, by decide,
    by decide, by decide⟩
theorem witness_DiscardEmptiesOpenBatch :
    portReady [0x32] (tx engaged) ∧ engaged.part = .engaged ∧ openSlot engaged = some 0 ∧ waitsForNoPlace engaged
      ∧ configured.part ≠ .engaged ∧ (∀ e ∈ engaged.buf.entries, e.slot ≠ 0)
      ∧ (∃ e ∈ { engaged with buf.entries := [entry 5 0 1 0 7] }.buf.entries, e.slot = 0)
      ∧ (writing .waitPlace).sys ≠ .idle :=
  ⟨tx_ready _ _ rfl, by decide, by decide, idle_waits rfl, by decide, by decide, by decide, by decide⟩
theorem witness_FlushForces :
    portReady [0x33] (tx engaged) ∧ configured.part = .pass ∧ engaged.part = .engaged
      ∧ { engaged with part := .quiescing }.part = .quiescing ∧ youngestNonOpen engaged = none
      ∧ youngestNonOpen beforeBlank = some 1 ∧ countSlots .opened beforeBlank = 1
      ∧ openSlot beforeBlank = some 2 ∧ freeSlot beforeBlank = some 3 ∧ beforeBlank.drain.horizon = none
      ∧ (beforeBlank.batch.seqCounter + 1 - (slotOf 2 beforeBlank).sequence).toNat
          < (beforeBlank.batch.seqCounter + 1 - 0).toNat
      ∧ (∀ k : SlotIx, k ≠ 2 → slotState k beforeBlank ≠ .free →
          (beforeBlank.batch.seqCounter + 1 - (slotOf 2 beforeBlank).sequence).toNat
            < (beforeBlank.batch.seqCounter + 1 - (slotOf k beforeBlank).sequence).toNat)
      ∧ (let s := slots (slotWith .held 50) (slotWith .closed 51) (slotWith .closed 52) (slotWith .opened 53) 54;
        freeSlot s = none ∧ youngestNonOpen s = some 2) :=
  ⟨tx_ready _ _ rfl, by decide, by decide, by decide, by decide, by decide, by decide, by decide, by decide, by decide,
    by decide, by decide, by decide⟩
/-- HELD batches at a FLUSH, with a slot FREE and with none: CLOSED, the tag and WAS_HELD kept. -/
theorem witness_FlushForces_held :
    (let held : Slot := { slotWith .held 50 with tag := 9, wasHeld := true };
      (let t := flushEngaged (slots held (slotWith .closed 51) (slotWith .opened 52) Slot.cleared 53);
        (slotOf 0 t, t.batch.seqCounter) = ({ held with state := .closed }, 54))
        ∧ (let s := slots held (slotWith .closed 51) (slotWith .closed 52) (slotWith .opened 53) 54;
          slotOf 0 (flushEngaged s) = { held with state := .closed } ∧ slotOf 3 (flushEngaged s) = slotOf 3 s)) := by decide
theorem witness_PinResetAndItsRise : engaged.resetn = true ∧ { engaged with resetn := false }.resetn = false := by decide
theorem witness_TickAdvances :
    nearExpiry.resetn = true ∧ { nearExpiry with resetn := false }.resetn = false
      ∧ see .timeBaseTick { nearExpiry with stall.elapsed := 500 } (·.stall.elapsed) = some 500
      ∧ see .timeBaseTick { e2Flying with drain.ticks := 65535 } (·.drain.ticks) = some 65535
      ∧ see .timeBaseTick { e2Flying with drain.ticks := 65534 } (·.drain.ticks) = some 65535 := by decide

/-- A stall at its limit, with a cause, three batches behind it. -/
def due (c : StallCause) : State :=
  { slots (slotWith .held 8) (slotWith .closed 9) (slotWith .opened 10) Slot.cleared 11 with
    buf.entries := [entry 5 1 1 0 7]
    stall := { active := true, cause := c, limit := 0, elapsed := 0, expired := false, forceCloseOwed := false } }

theorem witness_StallExpiryAndForceClose :
    (∀ c : StallCause, c ∈ [StallCause.place, .slot, .pass] →
        (due c).stall.active = true ∧ (due c).stall.expired = false
          ∧ (due c).stall.limit.toNat ≤ (due c).stall.elapsed.toNat ∧ (due c).stall.cause = c)
      ∧ oldestNonOpenWithEntry (due .place) = some 1 ∧ oldestNonOpen nearExpiry = none ∧ openSlot nearExpiry = some 0
      ∧ freeSlot nearExpiry = some 1 ∧ nearExpiry.stall.active = true ∧ nearExpiry.drain.horizon = none := by
  refine ⟨?_, by decide, by decide, by decide, by decide, by decide, by decide⟩
  intro c _
  exact ⟨rfl, rfl, Nat.le_refl 0, rfl⟩
/-- R125 with the open batch alone in flight. -/
theorem witness_StallExpiryAndForceClose_alone :
    (let s := { nearExpiry with stall.elapsed := 500 };
      s.stall.active = true ∧ s.stall.expired = false ∧ s.stall.limit.toNat ≤ s.stall.elapsed.toNat
        ∧ s.stall.cause = .place ∧ oldestNonOpen s = none ∧ s.drain.horizon = none ∧ openSlot s = some 0
        ∧ freeSlot s = some 1 ∧ (slotOf 0 (forceForPlace s)).forceClosed = true) := by decide
/-- R125 with non-OPEN batches in flight, all empty: the force-close is owed and the horizon reaches the youngest. -/
theorem witness_StallExpiryAndForceClose_owed :
    (let s := { due .place with buf.entries := [entry 5 2 1 0 7] };
      s.stall.cause = .place ∧ oldestNonOpenWithEntry s = none ∧ youngestNonOpen s = some 1
        ∧ ((forceForPlace s).stall.forceCloseOwed, (forceForPlace s).drain.horizon) = (true, some 9)) := by decide
theorem witness_BlankEvents :
    beforeBlank.resetn = true ∧ beforeBlank.sync.blanking = some false ∧ beforeBlank.cfg.source = .blankHigh
      ∧ { beforeBlank with cfg.source := .blankLow }.cfg.source = .blankLow
      ∧ { beforeBlank with sync.blanking := some true }.sync.blanking = some true
      ∧ { beforeBlank with resetn := false }.resetn = false
      ∧ { beforeBlank with cfg.source := .immediate }.cfg.source = .immediate
      ∧ (queueOrder beforeBlank = [] ++ [0] ++ [1, 2] ∧ slotState 0 beforeBlank = .closed
        ∧ inDrainSet (slotOf 0 beforeBlank).sequence beforeBlank = false ∧ slotState 1 beforeBlank ≠ .closed)
      ∧ (let s := { beforeBlank with drain.setEnd := some 0 };
        queueOrder s = [0] ++ [] ++ [1, 2] ∧ inDrainSet (slotOf 0 s).sequence s = true ∧ slotState 1 s ≠ .draining
          ∧ inDrainSet (slotOf 1 s).sequence s = false ∧ slotState 1 s ≠ .closed) := by decide

/-! #### The system port -/

/-- ENGAGED with a word held in full and a word held in part. -/
def heldWords : State :=
  { engaged with buf := { entries := [entry 0x10 0 0xF 0 0x44332211, entry 0x11 0 0x3 0xFFFFFFFF 0x0000F00F], highWater := 2 } }

theorem witness_SystemAndRefreshReads :
    heldWords.sys = .idle ∧ wordHasEntry 0x12 heldWords = false ∧ wordHasEntry 0x10 heldWords = true
      ∧ (composed 0x10 heldWords).keep = 0#32 ∧ wordHasEntry 0x11 heldWords = true ∧ (composed 0x11 heldWords).keep ≠ 0#32
      ∧ (flying .systemRead 9 engaged).inFlight
          = some { req := { kind := .systemRead, word := 9, lanes := 0xF, data := 0 }, cutOff := false }
      ∧ engaged.refresh = .idle ∧ (flying .refreshRead 9 engaged).inFlight
          = some { req := { kind := .refreshRead, word := 9, lanes := 0xF, data := 0 }, cutOff := false } := by decide
theorem witness_WritesInPassAndQuiescing :
    configured.sys = .idle ∧ configured.part = .pass ∧ markOf configured.cfg 0x7FF000 0xF ≠ some .consumer
      ∧ markOf configured.cfg 0x7FF002 0x7 ≠ some .consumer
      ∧ someDeferrable { fiveClasses with part := .quiescing } 0x020000 0xF
      ∧ someDeferrable { fiveClasses with part := .quiescing } 0x020000 0x8 := by
  unfold someDeferrable
  decide

/-- ENGAGED with an XOR window that defers. -/
def deferring : State :=
  { heldWords with cfg.windows := configured.cfg.windows.set 0 (window 0x11 0 8 .p8 .defer 0x6 false 0 0xFF) }

theorem witness_HeldWriteCommits :
    deferring.sys = .idle ∧ deferring.part = .engaged ∧ markOf deferring.cfg 0x12 0xF = none
      ∧ openSlot deferring = some 0 ∧ (classifiedJob deferring 0x11 0x3 0x0102).lanesToHold ≠ 0#4
      ∧ (classifiedJob deferring 0x11 0x3 0x0102).immediateLanes = 0#4 ∧ (findEntry 0x11 0 deferring).isSome = true
      ∧ (classifiedJob deferring 0x12 0xF 0x0102).lanesToHold ≠ 0#4
      ∧ (classifiedJob deferring 0x12 0xF 0x0102).immediateLanes = 0#4 ∧ findEntry 0x12 0 deferring = none
      ∧ deferring.buf.entries.length < 1024 := by decide

/-- ENGAGED with a window that defers two lanes of a word: its other two are plain. -/
def halfDeferring : State :=
  { heldWords with cfg.windows := configured.cfg.windows.set 0 (window 0x12 0 2 .p8 .defer 0xA false 0 0xFF) }

/-- Lanes to hold beside immediate ones: with an entry in the open batch and without one, the destination needed or not. -/
theorem witness_HeldWriteCommits_mixed :
    (let w := classifiedJob heldWords 0x11 0xF 0x01020304;
      (findEntry 0x11 0 heldWords).isSome = true ∧ w.lanesToHold ≠ 0#4 ∧ w.immediateLanes ≠ 0#4
        ∧ w.needsDestination = false)
      ∧ (let w := classifiedJob halfDeferring 0x12 0xF 0x01020304;
        findEntry 0x12 0 halfDeferring = none ∧ w.lanesToHold ≠ 0#4 ∧ w.immediateLanes ≠ 0#4
          ∧ w.needsDestination = false)
      ∧ (let w := classifiedJob fiveClasses 0x020000 0xF 0x77005A3C;
        openSlot fiveClasses = some 1 ∧ findEntry 0x020000 1 fiveClasses = none ∧ w.lanesToHold ≠ 0#4
          ∧ w.immediateLanes ≠ 0#4 ∧ w.needsDestination = true)
      ∧ (let s := { fiveClasses with batch.slots.a0.state := .opened };
        openSlot s = some 0 ∧ (findEntry 0x020000 0 s).isSome = true
          ∧ (classifiedJob s 0x020000 0xF 0x77005A3C).needsDestination = true) := by decide

/-- Carried and deferred lanes to hold, a keyed-out and a direct lane that are not; an entry that a write is composed into,
and one of another slot that it leaves. -/
theorem witness_HeldWriteCommits_parts :
    (let w := classifiedJob fiveClasses 0x020000 0xF 0x77005A3C;
      w.lanesToHold = 0xA ∧ hasLane w.lanesToHold 1 = true ∧ hasLane w.lanesToHold 3 = true
        ∧ hasLane w.lanesToHold 0 = false ∧ hasLane w.lanesToHold 2 = false ∧ w.classes.get 2 = .keyedOut)
      ∧ (composeEntry 5 0 0x6 { keep := 0xFF00FFFF, flip := 0x00120000 }
          { engaged with buf.entries := [entry 5 1 1 0 7, entry 5 0 0x3 0xFFFF0000 0x0000A1B2] }).buf.entries
        = [entry 5 1 1 0 7, entry 5 0 0x7 0xFF000000 0x0012A1B2] := by decide

/-- A thousand and twenty-four entries of other words in a closed slot. -/
def fullBuffer : State :=
  { deferring with
    buf := { entries := (List.range 1024).map fun n => entry (BitVec.ofNat 24 (4096 + n)) 1 1 0 0, highWater := 1024 } }

theorem witness_HeldWriteCommits_full :
    fullBuffer.sys = .idle ∧ fullBuffer.part = .engaged ∧ openSlot fullBuffer = some 0
      ∧ 1024 ≤ fullBuffer.buf.entries.length := by
  refine ⟨rfl, rfl, by decide, ?_⟩
  simp [fullBuffer]
theorem witness_ImmediateWrites :
    (classifiedJob fiveClasses 0x020000 0x1 0x3C).needsDestination = true
      ∧ (classifiedJob fiveClasses 0x020000 0x1 0x3C).lanesToHold = 0#4
      ∧ (classifiedJob fiveClasses 0x020000 0x1 0x3C).immediateLanes ≠ 0#4
      ∧ (classifiedJob engaged 5 0xF 7).needsDestination = false ∧ (classifiedJob engaged 5 0xF 7).lanesToHold = 0#4
      ∧ (classifiedJob engaged 5 0xF 7).immediateLanes ≠ 0#4 ∧ markOf engaged.cfg 5 0xF = none
      ∧ (classifiedJob overlap 0x02A100 0xC 0xF81F0000).lanesToHold = 0#4
      ∧ (classifiedJob overlap 0x02A100 0xC 0xF81F0000).immediateLanes = 0#4
      ∧ ¬someDeferrable { engaged with part := .quiescing } 5 0xF := by
  unfold someDeferrable
  decide
/-- A direct lane that needs the destination, beside lanes that are not immediate; a plain lane with keep bits 0. -/
theorem witness_ImmediateWrites_lanes :
    (let w := { classifiedJob fiveClasses 0x020000 0xF 0x77005A3C with readData := some 0x11223344 };
      hasLane w.immediateLanes 0 = true ∧ hasLane w.immediateLanes 1 = false ∧ (laneByte w.xf.keep 0).getLsbD 0 = true
        ∧ w.readData = some 0x11223344 ∧ laneByte w.memoryData 0 = 0x78 ∧ laneByte w.memoryData 1 = 0x00)
      ∧ (let w := classifiedJob engaged 5 0x1 7;
        hasLane w.immediateLanes 0 = true ∧ laneByte w.xf.keep 0 = 0x00#8 ∧ laneByte w.memoryData 0 = 7
          ∧ hasLane w.immediateLanes 3 = false) := by decide
/-- A mark, and what is none: a partial store, a neighbour, and any word while MARKS has not configured them (R74). -/
theorem witness_ImmediateWrites_noMark :
    markOf configured.cfg 0x7FF001 0xF = some .release ∧ markOf configured.cfg 0x7FF001 0x7 = none
      ∧ markOf configured.cfg 0x7FF003 0xF = none ∧ markOf State.reset.cfg 0 0xF = none := by decide
/-- The close word and the release word in QUIESCING (R87, R91). -/
theorem witness_ImmediateWrites_marks :
    (let s := { beforeBlank with part := .quiescing };
      s.sys = .idle ∧ s.cfg.marks = some { close := 0x7FF000, release := 0x7FF001, consumer := 0x7FF002 }
        ∧ ordinaryWord 0x7FF000 s ∧ ordinaryWord 0x7FF001 s
        ∧ see (.systemWrite 0x7FF000 0xF 0x122) s (fun t => (t.batch, t.stall.active)) = some (s.batch, false)
        ∧ see (.systemWrite 0x7FF001 0xF 0) s (·.batch) = some s.batch) := by
  unfold ordinaryWord
  decide
theorem witness_CloseStoreCloses :
    engaged.sys = .idle ∧ engaged.part = .engaged
      ∧ engaged.cfg.marks = some { close := 0x7FF000, release := 0x7FF001, consumer := 0x7FF002 }
      ∧ ordinaryWord 0x7FF000 engaged ∧ openSlot engaged = some 0 ∧ freeSlot engaged = some 1
      ∧ freeSlot (slots (slotWith .held 50) (slotWith .closed 51) (slotWith .closed 52) (slotWith .opened 53) 54)
          = none := by
  unfold ordinaryWord
  decide
theorem witness_ReleaseStoreReleases :
    beforeBlank.sys = .idle ∧ beforeBlank.part = .engaged ∧ ordinaryWord 0x7FF001 beforeBlank
      ∧ oldestHeld beforeBlank = some 1 ∧ oldestHeld engaged = none ∧ startChoice engaged = none := by
  unfold ordinaryWord
  decide
theorem witness_ConsumerStoreSnooped :
    ordinaryWord 0x7FF002 engaged ∧ recordInProgress decision4 = true ∧ recordInProgress engaged = false
      ∧ see (.systemWrite 0x7FF002 0xF 4) { engaged with recs.prod := 8, recs.cons := 8 } (·.recs.cons) = some 4
      ∧ see (.systemWrite 0x7FF002 0xF 3) { engaged with recs.prod := 8, recs.cons := 8 } (·.ev.flags) = some 0x40
      ∧ see (.systemWrite 0x7FF002 0xF 4) { decision4 with sys := .idle, recs.prod := 8, recs.cons := 8 } (·.ev.flags)
          = some 0x40
      ∧ see (.systemWrite 0x7FF002 0xF 5) { decision4 with sys := .idle, recs.prod := 8, recs.cons := 8 } (·.recs.cons)
          = some 5 := by
  unfold ordinaryWord
  decide

/-- The write of 4.8.1 in step 2. -/
def stepTwo : WriteJob :=
  { classifiedJob fiveClasses 0x020000 0xF 0x77005A3C with reserved := true, phase := .destInFlight }

theorem witness_DestinationReadAnswered :
    destinationFlying.sys = .write stepTwo ∧ destinationFlying.inFlight.map (·.req.kind) = some .destinationRead
      ∧ stepTwo.plain = false ∧ stepTwo.lanesToHold ≠ 0#4 ∧ stepTwo.immediateLanes ≠ 0#4 ∧ stepTwo.reserved = true
      ∧ stepTwo.leftEngaged = false ∧ stepTwo.mark = none ∧ stepTwo.lanes ≠ 0#4 ∧ leftJob.leftEngaged = true
      ∧ openSlot destinationFlying = some 1 ∧ findEntry 0x020000 1 destinationFlying = none
      ∧ (findEntry 0x020000 0 { destinationFlying with batch.slots.a0.state := .opened }).isSome = true
      ∧ openSlot { destinationFlying with batch.slots.a0.state := .opened } = some 0
      ∧ (classifiedJob fiveClasses 0x020000 0x1 0x3C).lanesToHold = 0#4
      ∧ openSlot { destinationFlying with batch.slots.a1.state := .closed, part := .quiescing } = none
      ∧ configured.part ≠ .quiescing ∧ stepTwo.asPlain.plain = true ∧ stepTwo.asPlain.immediateLanes ≠ 0#4 := by decide
theorem witness_DestinationReadAnswered_full :
    (let w := { classifiedJob fullBuffer 0x12 0xF 0x0102 with phase := .destInFlight };
      w.reserved = false ∧ findEntry w.word 0 { fullBuffer with buf.entries := [] } = none)
      ∧ openSlot fullBuffer = some 0 ∧ 1024 ≤ fullBuffer.buf.entries.length := by
  refine ⟨⟨rfl, rfl⟩, by decide, ?_⟩
  simp [fullBuffer]
theorem witness_RefreshWritesRefused : State.reset.refresh = .idle ∧ engaged.refresh = .idle := by decide

/-! #### The arbiter, the drain engine and the record writer -/

theorem witness_ArbiterOrder :
    (refreshRequest { decision4 with refresh := .waiting 9 3 }).isSome = true ∧ (recordRequest decision4).isSome = true
      ∧ (drainRequest decision4).isSome = true ∧ (systemRequest decision4).isSome = true
      ∧ choose { decision4 with waits.record := 31 } = some .system
      ∧ choose { decision4 with waits.record := 31, waits.system := 2 } = some .drain
      ∧ choose { decision4 with waits.record := 31, sync.blanking := some false } = some .system
      ∧ choose { decision4 with waits.record := 31, sync.blanking := some false, waits.drain := 3 } = some .drain
      ∧ choose { decision4 with waits.record := 0, sys := .idle, drain.access := .none } = some .record := by decide
theorem witness_GrantsOfEveryRequester :
    engaged.inFlight = none ∧ choose engaged = none ∧ decision4.inFlight = none ∧ choose decision4 = some .record
      ∧ (flying .drainRead 1 engaged).inFlight ≠ none
      ∧ choose { engaged with refresh := .waiting 9 3 } = some .refresh
      ∧ (let r : ReadJob := { word := 0x11, lanes := 0xF, forwarded := true, granted := false, snapshot := Transform.identity };
        choose { heldWords with sys := .read r } = some .system ∧ r.granted = false)
      ∧ choose { engaged with sys := .write (plainStore 5 7 none false) } = some .system
      ∧ choose (writing .destRequested) = some .system
      ∧ (let s := { drainWaiting (entry 0x200 0 0x2 0xFFFF0FFF 0x0000A000) none with drain.access := .readRequested };
        choose s = some .drain ∧ s.drain.current = some 0 ∧ s.drain.access = .readRequested) := by decide
/-- R105, R106: a lane outside the set, one with keep bits 0, and one formed from the data read; places in use. -/
theorem witness_DrainWriteGrantAndFreedPlace_data :
    (let e := entry 0x200 0 0x3 0xFFFF00F0 0x00001234;
      hasLane e.lanes 3 = false ∧ hasLane e.lanes 1 = true ∧ laneByte e.xf.keep 1 = 0x00#8 ∧ hasLane e.lanes 0 = true
        ∧ drainData e (some 0x11223344) = 0x00001274)
      ∧ placesUsed destinationFlying = 2 ∧ placeFree destinationFlying = true := by decide
theorem witness_DrainWriteGrantAndFreedPlace :
    (let s := drainWaiting (entry 0x200 0 0xF 0 0x0A0B0C0D) none;
      s.inFlight = none ∧ choose s = some .drain ∧ s.drain.current = some 0
        ∧ s.drain.entry = some (entry 0x200 0 0xF 0 0x0A0B0C0D) ∧ s.drain.access = .writeRequested
        ∧ s.cfg.source ≠ .immediate ∧ s.sync.blanking ≠ some true ∧ (slotOf 0 s).torn = false
        ∧ { s with sync.blanking := some true }.sync.blanking = some true
        ∧ (slotOf 0 { s with batch.slots.a0.torn := true }).torn = true)
      ∧ (∀ ph ∈ [WritePhase.waitPlace, .waitCommitPlace],
        let w : WriteJob := { classifiedJob deferring 0x12 0xF 0x0102 with phase := ph };
        let s := { deferring with sys := .write w };
        placeFree s = true ∧ openSlot s = some 0 ∧ w.leftEngaged = false ∧ w.lanesToHold ≠ 0#4
          ∧ w.needsDestination = false ∧ findEntry w.word 0 s = none)
      ∧ (classifiedJob fiveClasses 0x020000 0xF 0x77005A3C).needsDestination = true
      ∧ waitsForNoPlace engaged :=
  ⟨by decide, by decide, by decide, idle_waits rfl⟩
theorem witness_RecordWordsWritten :
    (∀ w ∈ [RecWord.word1, .word2, .word3],
      let s := { engaged with
        recs := { records := [(slotWith .closed 2).toRec], writer := .requested w, prod := 65535, cons := 65533, lost := 0 } };
      s.inFlight = none ∧ choose s = some .record ∧ s.recs.writer = .requested w
        ∧ s.recs.records = [(slotWith .closed 2).toRec])
      ∧ (let s := { engaged with
        recs := { records := [(slotWith .closed 2).toRec], writer := .requested .word0, prod := 4, cons := 2, lost := 2 } };
      s.inFlight = none ∧ choose s = some .record ∧ s.recs.writer = .requested .word0
        ∧ s.recs.records = [(slotWith .closed 2).toRec])
      ∧ (let s := flying .recordWrite 0x7F0001 { decision4 with recs.writer := .inFlight .word1 };
        s.inFlight.map (fun f => (f.req.kind, f.cutOff)) = some (.recordWrite, false)
          ∧ s.recs.writer = .inFlight .word1)
      ∧ (flying .recordWrite 0x7F0000 { decision4 with recs.writer := .inFlight .word0 }).recs.writer = .inFlight .word0 := by
  decide
theorem witness_BatchesStart :
    startChoice { beforeBlank with drain.setEnd := some 0 } = some (0, false)
      ∧ startChoice { beforeBlank with drain.horizon := some 0 } = some (0, true)
      ∧ startChoice { beforeBlank with cfg.source := .immediate } = some (0, false)
      ∧ startChoice { due .place with drain.horizon := some 8 } = some (0, true) ∧ startChoice beforeBlank = none
      ∧ oldestEntry 0 { beforeBlank with drain.setEnd := some 0 } = some (entry 5 0 1 0 7) := by decide
/-- What a reset leaves of a drain request it cut off: an idle engine and the answer to come. -/
def cutOffFlying (k : ReqKind) : State :=
  { State.reset with inFlight := some { req := { kind := k, word := 0x200, lanes := 0xF, data := 0 }, cutOff := true } }

/-- The queue across the wrap of the sequence counter, its ends, and the slots of lowest number (R79, R81). -/
theorem witness_BatchesStart_queue :
    (let s := { slots (slotWith .opened 0) (slotWith .held 65534) Slot.cleared (slotWith .closed 65535) 1 with
          drain.setEnd := some 65534, drain.horizon := some 65535, buf.entries := [entry 5 3 1 0 7] };
      queueOrder s = [1, 3, 0] ∧ oldestNonOpen s = some 1 ∧ youngestNonOpen s = some 3 ∧ oldestHeld s = some 1
        ∧ oldestNonOpenWithEntry s = some 3 ∧ freeSlot s = some 2 ∧ openSlot s = some 0
        ∧ inDrainSet 65534 s = true ∧ inDrainSet 65535 s = false ∧ inHorizon 65535 s = true ∧ inHorizon 0 s = false)
      ∧ oldestNonOpen engaged = none ∧ oldestHeld engaged = none ∧ openSlot configured = none
      ∧ freeSlot (slots (slotWith .held 50) (slotWith .closed 51) (slotWith .closed 52) (slotWith .opened 53) 54)
          = none := by decide
theorem witness_EntriesTakenAndDrainWriteAnswered :
    (entry 0x200 0 0xF 0 7).xf.keep &&& laneBits (entry 0x200 0 0xF 0 7).lanes = 0#32
      ∧ (entry 0x200 0 0x2 0xFFFF0FFF 0xA000).xf.keep &&& laneBits (entry 0x200 0 0x2 0xFFFF0FFF 0xA000).lanes ≠ 0#32
      ∧ (flying .drainWrite 0x200 e2Flying).inFlight.map (fun f => (f.req.kind, f.cutOff)) = some (.drainWrite, false)
      ∧ e2Flying.drain.current = some 0 ∧ (oldestEntry 0 e2Flying).isSome = true
      ∧ oldestEntry 0 { e2Flying with buf.entries := [] } = none
      ∧ (cutOffFlying .drainWrite).inFlight.map (fun f => (f.req.kind, f.cutOff)) = some (.drainWrite, true)
      ∧ (cutOffFlying .drainWrite).drain.current = none := by decide
/-- The oldest entry of a slot is the first made, whatever stands between (R34). -/
theorem test_oldestEntry :
    oldestEntry 0 { engaged with buf.entries := [entry 9 1 1 0 1, entry 5 0 1 0 2, entry 6 0 1 0 3] }
      = some (entry 5 0 1 0 2) := by decide
theorem witness_DrainReadAnswered :
    e2Flying.inFlight.map (fun f => (f.req.kind, f.cutOff)) = some (.drainRead, false) ∧ e2Flying.drain.current = some 0
      ∧ e2Flying.drain.entry = some (entry 0x200 0 0x2 0xFFFF0FFF 0x0000A000)
      ∧ (cutOffFlying .drainRead).inFlight.map (fun f => (f.req.kind, f.cutOff)) = some (.drainRead, true)
      ∧ (cutOffFlying .drainRead).drain.current = none ∧ (cutOffFlying .drainRead).drain.entry = none := by decide
theorem witness_BatchCompletesAndQuiescingEnds :
    e2Flying.recs.records.length < 4
      ∧ 4 ≤ { e2Flying with recs.records := List.replicate 4 (slotWith .closed 1).toRec }.recs.records.length
      ∧ allFree { configured with part := .quiescing } = true ∧ allFree { beforeBlank with part := .quiescing } = false
      ∧ ({ plainStore 1 2 none false with phase := .waitPass } : WriteJob).mark = none
      ∧ engaged.batch.pendingClose = false ∧ forceCloseDue engaged = false
      ∧ openSlot engaged = some 0 ∧ freeSlot engaged = some 1 ∧ engaged.drain.horizon = none ∧ oldestNonOpen engaged = none
      ∧ (let w : WriteJob := { plainStore 0x7FF000 0x122 (some .close) false with phase := .waitSlot };
        w.needsDestination = false ∧ w.lanesToHold = 0#4 ∧ w.immediateLanes ≠ 0#4)
      ∧ { engaged with batch.pendingClose := true }.batch.pendingClose = true
      ∧ forceCloseDue { nearExpiry with stall.forceCloseOwed := true } = true := by decide

end Sys2Proof.Machine.Tests
end

section
/-! PROOFS. The window commands of the setup port (chapter 1): the index byte, WIN_READ, WIN_DISABLE and resolution. -/

namespace Sys2Proof.Machine

/-! ### The window index -/

theorem windowIndex_of_toNat_eq {b : Byte} {i : Fin 16} (h : b.toNat = i.val) : windowIndex b = some i := by
  simp [windowIndex, h]

theorem windowIndex_of_ge {b : Byte} (h : 16 ≤ b.toNat) : windowIndex b = none := by
  simp [windowIndex, Nat.not_lt.mpr h]

/-! ### The commands -/

theorem cmdWinRead_of_index {v : Byte} {i : Fin 16} (h : v.toNat = i.val) (s : State) :
    cmdWinRead v s = answerWith (windowData (windowAt i s)) s := by
  simp only [cmdWinRead, windowIndex_of_toNat_eq h]

theorem cmdWinDisable_of_ge {v : Byte} (h : 16 ≤ v.toNat) (s : State) : cmdWinDisable v s = refuse .range s := by
  simp only [cmdWinDisable, windowIndex_of_ge h]

theorem cmdWinDisable_of_index {v : Byte} {i : Fin 16} (h : v.toNat = i.val) (s : State) :
    cmdWinDisable v s = accept (setWindow i { windowAt i s with enabled := false } s) := by
  simp only [cmdWinDisable, windowIndex_of_toNat_eq h]

/-! ### The rows, with the port ready for them (R161) -/

theorem exec_winRead_ready {v : Byte} {s : State} (h : portReady [0x11, v] s) :
    exec (.winRead v) s = .next (execute (cmdWinRead v) s) :=
  deliver_ready h

theorem exec_winDisable_ready {v : Byte} {s : State} (h : portReady [0x13, v] s) :
    exec (.winDisable v) s = .next (execute (cmdWinDisable v) s) :=
  deliver_ready h

theorem exec_winRead_of_index {v : Byte} {i : Fin 16} {s : State} (h : portReady [0x11, v] s) (hi : v.toNat = i.val) :
    exec (.winRead v) s = .next (executed 0x00 (windowData (windowAt i s)) s) := by
  rw [exec_winRead_ready h, execute_answered (cmdWinRead_of_index hi s)]

/-- R10 for an index above 15. -/
theorem exec_winDisable_of_ge {v : Byte} {s : State} (h : portReady [0x13, v] s) (hv : 16 ≤ v.toNat) :
    exec (.winDisable v) s = .next (executed 0x02 [] s) := by
  rw [exec_winDisable_ready h, execute_refused (cmdWinDisable_of_ge hv s)]
  rfl

/-- R10 for an index of the table. -/
theorem exec_winDisable_of_index {v : Byte} {i : Fin 16} {s : State} (h : portReady [0x13, v] s) (hi : v.toNat = i.val) :
    exec (.winDisable v) s = .next (executed 0x00 [] (setWindow i { windowAt i s with enabled := false } s)) := by
  rw [exec_winDisable_ready h, execute_accepted (cmdWinDisable_of_index hi s)]

/-! ### Resolution -/

/-- Resolution finds an enabled window that contains the byte position (R13). -/
theorem enabled_and_contains_of_resolve {s : State} {b : Nat} {w : Window} (h : resolve s b = some w) :
    w.enabled = true ∧ w.contains b = true := by
  simpa only [Bool.and_eq_true] using List.find?_some h

/-- Settles O33: the row runs `cmdWinDisable`, whose two cases are those of the index byte, and resolution looks for
enabled windows alone. -/
theorem winDisableRemoves : Obligations.WinDisableRemoves := by
  refine ⟨fun v s h => ⟨fun hv => ?range, fun i hi => ?disabled⟩, fun v i s hi h => ?read, fun s b w h => ?resolution⟩
  case range => exact exec_winDisable_of_ge h hv
  case disabled => exact exec_winDisable_of_index h hi
  case read => exact exec_winRead_of_index h hi
  case resolution => exact enabled_and_contains_of_resolve h

end Sys2Proof.Machine
end

section
/-! PROOFS. Lane transforms (chapter 2): applying one (R23), composing two (R28), and the pair of a raster code (R20). -/

namespace Sys2Proof.Machine

/-! ### Applying a transform (R23) -/

/-- Applying acts on each lane by that lane's own keep and flip bits. -/
@[simp] theorem laneByte_apply (t : Transform) (v : Word) (i : LaneIx) :
    laneByte (t.apply v) i = (laneByte v i &&& laneByte t.keep i) ^^^ laneByte t.flip i := by
  simp only [Transform.apply, laneByte_xor, laneByte_and]

@[simp] theorem laneByte_allOnes (i : LaneIx) : laneByte (BitVec.allOnes 32) i = 0xFF#8 := by
  revert i
  decide

theorem Transform.isIdentityOn_iff (t : Transform) (i : LaneIx) :
    t.isIdentityOn i = true ↔ laneByte t.keep i = 0xFF#8 ∧ laneByte t.flip i = 0#8 := by
  simp only [Transform.isIdentityOn, Bool.and_eq_true, beq_iff_eq]

theorem laneByte_apply_of_keep_zero {t : Transform} {i : LaneIx} (h : laneByte t.keep i = 0#8) (v : Word) :
    laneByte (t.apply v) i = laneByte t.flip i := by
  rw [laneByte_apply, h, BitVec.and_zero, BitVec.zero_xor]

theorem laneByte_apply_of_isIdentityOn {t : Transform} {i : LaneIx} (h : t.isIdentityOn i = true) (v : Word) :
    laneByte (t.apply v) i = laneByte v i := by
  obtain ⟨hkeep, hflip⟩ := (t.isIdentityOn_iff i).mp h
  rw [laneByte_apply, hkeep, hflip, BitVec.xor_zero]
  exact BitVec.and_allOnes

/-- The all-zeros and the all-ones word are told apart by every keep bit that is 1. -/
theorem laneByte_apply_zero_ne_allOnes {t : Transform} {i : LaneIx} (h : laneByte t.keep i ≠ 0#8) :
    laneByte (t.apply 0#32) i ≠ laneByte (t.apply (BitVec.allOnes 32)) i := by
  intro heq
  rw [laneByte_apply, laneByte_apply, BitVec.xor_left_inj, laneByte_zero, laneByte_allOnes] at heq
  have hones : 0xFF#8 &&& laneByte t.keep i = laneByte t.keep i := BitVec.allOnes_and
  rw [hones, BitVec.zero_and] at heq
  exact h heq.symm

/-- Settles O16: applying acts lane by lane, and on one lane the three cases are those of its keep byte. -/
theorem transformApplies : Obligations.TransformApplies := by
  refine ⟨fun t v => ?rule, fun t v i h => ?determined, fun t i h => ?dependent, fun t v i h => ?identity⟩
  case rule => rfl
  case determined => exact laneByte_apply_of_keep_zero h v
  case dependent => exact ⟨_, _, laneByte_apply_zero_ne_allOnes h⟩
  case identity => exact laneByte_apply_of_isIdentityOn h v

/-! ### Composing transforms (R28) -/

@[simp] theorem Transform.apply_identity (v : Word) : Transform.identity.apply v = v :=
  word_eq_of_lanes fun i => laneByte_apply_of_isIdentityOn (by revert i; decide) v

/-- The law of R28: keep and flip bits distribute as R23 applies them. -/
theorem Transform.apply_andThen (t u : Transform) (v : Word) : (t.andThen u).apply v = u.apply (t.apply v) := by
  apply BitVec.eq_of_getLsbD_eq
  intro k _
  simp only [Transform.apply, Transform.andThen, BitVec.getLsbD_xor, BitVec.getLsbD_and]
  generalize v.getLsbD k = d, t.keep.getLsbD k = k₁, t.flip.getLsbD k = x₁, u.keep.getLsbD k = k₂,
    u.flip.getLsbD k = x₂
  revert d k₁ x₁ k₂ x₂
  decide

/-- Composing a list of entries after a transform has the effect of applying them in turn. -/
theorem apply_foldl_andThen (es : List Entry) (t : Transform) (v : Word) :
    (es.foldl (fun t e => t.andThen e.xf) t).apply v = es.foldl (fun a e => e.xf.apply a) (t.apply v) :=
  (List.foldl_hom (fun t : Transform => t.apply v) fun t e => (t.apply_andThen e.xf v).symm).symm

/-- What the hold buffer composes for a word has the effect of its entries applied oldest batch first (R36). -/
theorem composed_apply (w : WordAddr) (s : State) (v : Word) :
    (composed w s).apply v = (wordEntries w s).foldl (fun a e => e.xf.apply a) v := by
  rw [composed, apply_foldl_andThen, Transform.apply_identity]

/-- Settles O17: the law for two transforms, carried along a word's entries. -/
theorem transformsCompose : Obligations.TransformsCompose := by
  refine ⟨fun t u v => ?effect, fun t u => ?pair, fun e m u => ?fold, fun w s => ?entries⟩
  case effect => exact t.apply_andThen u v
  case pair => rfl
  case fold => rfl
  case entries => exact funext (composed_apply w s)

/-! ### Raster codes (R19, R20) -/

theorem getLsbD_fillByte (b : Bool) {k : Nat} (hk : k < 8) : (fillByte b).getLsbD k = b := by
  cases b
  · exact BitVec.getLsbD_zero
  · have hones : fillByte true = BitVec.allOnes 8 := rfl
    rw [hones, BitVec.getLsbD_allOnes, decide_eq_true hk]

/-- R19 on one bit: the result is bit (2 × D + S) of the code. -/
theorem getLsbD_rasterResult (c : BitVec 4) (src : Byte) (d : Bool) {k : Nat} (hk : k < 8) :
    (rasterResult c src d).getLsbD k = c.getLsbD ((if d then 2 else 0) + if src.getLsbD k then 1 else 0) := by
  simp only [rasterResult, BitVec.getLsbD_or, BitVec.getLsbD_and, BitVec.getLsbD_not, getLsbD_fillByte _ hk,
    decide_eq_true hk, Bool.true_and]
  cases src.getLsbD k <;> simp

/-- R20, the flip bit: the result for D = 0. -/
theorem getLsbD_rasterFlip (c : BitVec 4) (src : Byte) {k : Nat} (hk : k < 8) :
    (rasterFlip c src).getLsbD k = c.getLsbD (if src.getLsbD k then 1 else 0) := by
  rw [rasterFlip, getLsbD_rasterResult c src false hk]
  cases src.getLsbD k <;> rfl

/-- R20, the keep bit: the exclusive or of the results for D = 0 and D = 1. -/
theorem getLsbD_rasterKeep (c : BitVec 4) (src : Byte) {k : Nat} (hk : k < 8) :
    (rasterKeep c src).getLsbD k
      = (c.getLsbD (if src.getLsbD k then 1 else 0) ^^ c.getLsbD (if src.getLsbD k then 3 else 2)) := by
  rw [rasterKeep, BitVec.getLsbD_xor, getLsbD_rasterResult c src false hk, getLsbD_rasterResult c src true hk]
  cases src.getLsbD k <;> rfl

/-- The bit of keep a XOR b and flip a takes destination 0 to a and destination 1 to b (R20). -/
theorem and_xor_xor_eq_ite (a b d : Bool) : ((d && (a ^^ b)) ^^ a) = if d then b else a := by
  revert a b d
  decide

/-- The work of an enabled, resolved lane that the key leaves alone (R18, R57). -/
theorem laneWork_of_window {s : State} {word : WordAddr} {lanes : LaneMask} {data : Word} {i : LaneIx} {w : Window}
    (hlane : hasLane lanes i = true) (hres : resolve s (bytePosition word i) = some w)
    (hkey : w.keyMatches lanes data i = false) (held : LaneMask) :
    laneWork s word lanes data held i =
      { cls := if hasLane held i then .carried else if w.mode = .defer then .deferred else .direct,
        keep := rasterKeep w.raster (laneByte data i), flip := rasterFlip w.raster (laneByte data i),
        deferrable := hasLane held i || w.mode == .defer } := by
  simp [laneWork, hlane, hres, hkey]

/-- Settles O18: such a lane takes the pair of its window's code, whose bits are those of R20. -/
theorem rasterPairsCarryTheCode : Obligations.RasterPairsCarryTheCode := by
  intro s word lanes data held i w k hlane hres hkey hk x src a b
  have hx := laneWork_of_window hlane hres hkey held
  have hkeep : x.keep.getLsbD k = (a ^^ b) :=
    (congrArg (·.keep.getLsbD k) hx).trans (getLsbD_rasterKeep w.raster (laneByte data i) hk)
  have hflip : x.flip.getLsbD k = a :=
    (congrArg (·.flip.getLsbD k) hx).trans (getLsbD_rasterFlip w.raster (laneByte data i) hk)
  refine ⟨hkeep, hflip, fun d => ?_⟩
  rw [hkeep, hflip]
  exact and_xor_xor_eq_ite a b d

end Sys2Proof.Machine
end

section
/-! PROOFS. The refresh port (9.2): what a free port does with a write. -/

namespace Sys2Proof.Machine

theorem exec_refreshWrite (word : WordAddr) (lanes : LaneMask) (s : State) :
    exec (.refreshWrite word lanes) s = execRefreshWrite word lanes s := rfl

/-- A free port takes the write, and its acceptance is its answer (R149). -/
theorem execRefreshWrite_of_idle {s : State} (hfree : s.refresh = .idle) (word : WordAddr) (lanes : LaneMask) :
    execRefreshWrite word lanes s = .next (answerRefresh .error s) :=
  if_neg (not_not_intro hfree)

/-- An answer on the refresh port sets its wires and frees it. -/
theorem answerRefresh_eq (a : Answer) (s : State) :
    answerRefresh a s = { s with refresh := .idle, refreshAnswer := some a } := rfl

/-- Settles O52: the free port takes the branch that answers at once, and that answer writes the port's two fields. -/
theorem refreshWritesRefused : Obligations.RefreshWritesRefused := by
  intro word lanes s hfree
  rw [exec_refreshWrite, execRefreshWrite_of_idle hfree, answerRefresh_eq]

end Sys2Proof.Machine
end

section
/-! PROOFS. Identification on the setup port (10.2): what IDENT answers, and the closed port under a pin reset. -/

namespace Sys2Proof.Machine

theorem exec_ident (s : State) : exec .ident s = deliver [0x01] cmdIdent s := rfl

/-- The part code goes out most significant byte first, then the revision (R165). -/
theorem cmdIdent_eq (s : State) : cmdIdent s = answerWith [0x41, 0x28, 0x02] s := by
  have hcode : bytes16 Config.partCode ++ [Config.revision] = [0x41, 0x28, 0x02] := by decide
  rw [cmdIdent, hcode]

/-- Settles O27: a ready port executes the row, whose answer keeps the state it is given; with RESETn low the port is
closed to it. -/
theorem identAnswers : Obligations.IdentAnswers := by
  refine ⟨fun s hready => ?answered, fun s hreset => ?notTaken⟩
  case answered => rw [exec_ident, deliver_ready hready, execute_answered (cmdIdent_eq s)]
  case notTaken => rw [exec_ident, deliver_closed (.inl hreset)]

end Sys2Proof.Machine
end

section
/-! PROOFS. What one command can do, said once (chapters 4, 6, 8, 9, 10): every outcome that `exec` can answer with a next
state, each as one operation on the state. The invariants of every step and the whole-machine rules are shown by the cases
of `Effect`. -/

namespace Sys2Proof.Machine

/-- A row or a shifted byte completes a setup command (R161). -/
def Completes (c : Instr) (cmd : SetupCommand) (s : State) : Prop :=
  c.setupCommand = some cmd
    ∨ ∃ b got, c = .setupByteShifted b ∧ s.setup.phase = .assembling got ∧ parseCommand (got ++ [b]) = some cmd

/-- The outcomes of one command. -/
inductive Effect : Instr → State → State → Prop
  /-- The setup port alone changes, or nothing does. -/
  | port (c : Instr) (s : State) (p : SetupPort) : Effect c s { s with setup := p }
  | ran {c : Instr} {cmd : SetupCommand} {s : State} (h : Completes c cmd s) :
      Effect c s (execute (runCommand cmd) s)
  | softReset {s : State} (p : SetupPort) (h : s.setup.softResetPending = true) :
      Effect .transactionEnd s (softReset { s with setup := p })
  | pinReset (s : State) (p : SetupPort) :
      Effect .pinReset s { clearRuntime Settings.reset s with resetn := false, setup := p }
  | resetnRise (s : State) :
      Effect .resetnRise s
        { s with resetn := true, sync.clkCycles := 0, sync.blanking := blankingFromPin s.cfg.source s.blank }
  | tick (s : State) :
      Effect .timeBaseTick s { s with sync.clkCycles := 0, stall := s.stall.tick, drain := s.drain.tick }
  | expiry {s : State} (h : expiryDue s = true) : Effect .stallExpiry s (expireStall s)
  | blankPin {c : Instr} (hc : c = .blankStart ∨ c = .blankEnd ∨ ∃ v, c = .blankPinChange v) (s : State) (high : Bool) :
      Effect c s { s with blank := high }
  | blankStart {c : Instr} (hc : c = .blankStart ∨ c = .blankEnd ∨ ∃ v, c = .blankPinChange v) (s : State) (high : Bool) :
      Effect c s (raiseBlankStart { s with blank := high })
  | blankEnd {c : Instr} (hc : c = .blankStart ∨ c = .blankEnd ∨ ∃ v, c = .blankPinChange v) (s : State) (high : Bool) :
      Effect c s (raiseBlankEnd { s with blank := high })
  | systemAnswered {c : Instr} {s : State} (hc : (∃ a l, c = .systemRead a l) ∨ ∃ a l d, c = .systemWrite a l d)
      (h : s.sys = .idle) (a : Answer) : Effect c s (answerSystem a s)
  | readTaken {s : State} (word : WordAddr) (lanes : LaneMask) (h : s.sys = .idle) (r : ReadJob) :
      Effect (.systemRead word lanes) s { s with sysAnswer := none, sys := .read r }
  | writeTaken {s : State} (word : WordAddr) {lanes : LaneMask} (data : Word) (h : s.sys = .idle) (hl : lanes ≠ 0#4) :
      Effect (.systemWrite word lanes data) s (acceptWrite word lanes data { s with sysAnswer := none })
  | refreshTaken {c : Instr} (hc : (∃ a l, c = .refreshRead a l) ∨ ∃ a l, c = .refreshWrite a l) (s : State)
      (r : RefreshPort) (a : Option Answer) : Effect c s { s with refresh := r, refreshAnswer := a }
  | granted {s : State} {r : Requester} (h : s.inFlight = none) (hr : choose s = some r) :
      Effect .arbiterGrant s (grantTo r s)
  | systemReadAnswered {s : State} {f : InFlight} {r : ReadJob} (hf : inFlightOf .systemRead s = some f)
      (hs : s.sys = .read r) (reply : ReadReply) :
      Effect (.systemReadResponse reply) s (answerSystem (r.answer reply) (takeResponse f (readFailed reply) s))
  | destinationReadAnswered {s : State} {f : InFlight} {w : WriteJob} (hf : inFlightOf .destinationRead s = some f)
      (hs : s.sys = .write w) (reply : ReadReply) :
      Effect (.destinationReadResponse reply) s (afterDestinationRead w reply (takeResponse f (readFailed reply) s))
  | immediateWriteAnswered {s : State} {f : InFlight} {w : WriteJob} (hf : inFlightOf .immediateWrite s = some f)
      (hs : s.sys = .write w) (reply : WriteReply) :
      Effect (.immediateWriteResponse reply) s (answerSystem (writeAnswer reply) (takeResponse f (writeFailed reply) s))
  | refreshReadAnswered {s : State} {f : InFlight} (hf : inFlightOf .refreshRead s = some f) (reply : ReadReply) :
      Effect (.refreshReadResponse reply) s (answerRefresh (readAnswer reply) (takeResponse f (readFailed reply) s))
  /-- A drain or record response that is discarded (R115, R143). -/
  | discarded {c : Instr} {s : State} {f : InFlight} (failed : Bool)
      (hc : (∃ r, c = .drainReadResponse r) ∨ (∃ r, c = .drainWriteResponse r) ∨ ∃ r, c = .recordWriteResponse r)
      (hf : s.inFlight = some f) : Effect c s (takeResponse f failed s)
  | drainReadAnswered {s : State} {f : InFlight} {i : SlotIx} {e : Entry} (hf : inFlightOf .drainRead s = some f)
      (hi : s.drain.current = some i) (he : s.drain.entry = some e) (reply : ReadReply) :
      Effect (.drainReadResponse reply) s (afterDrainRead i e reply (takeResponse f (readFailed reply) s))
  | drainWriteAnswered {s : State} {f : InFlight} {i : SlotIx} (hf : inFlightOf .drainWrite s = some f)
      (hi : s.drain.current = some i) (reply : WriteReply) :
      Effect (.drainWriteResponse reply) s (afterDrainWrite i reply (takeResponse f (writeFailed reply) s))
  | recordWriteAnswered {s : State} {f : InFlight} (hf : inFlightOf .recordWrite s = some f) (reply : WriteReply) :
      Effect (.recordWriteResponse reply) s (afterRecordWrite (takeResponse f (writeFailed reply) s))

/-! ### The setup port -/

theorem Effect.same (c : Instr) (s : State) : Effect c s s := .port c s s.setup

/-- A command without effect leaves the state but for the port. -/
theorem execute_refuse (code : ResultCode) (s : State) : execute (refuse code) s = executed code.byte [] s :=
  execute_refused rfl

theorem effect_clockOut (c : Instr) (n : Nat) (s : State) : Effect c s (clockOut n s) := by
  unfold clockOut
  split
  · split
    · exact .same c s
    · exact .port c s _
  all_goals exact .same c s

/-- A command row delivers its bytes: the command executes, or the port alone changes. -/
theorem deliver_cases {bytes : List Byte} {run : State → CommandOut} {s t : State}
    (h : deliver bytes run s = .next t) (c : Instr) : t = execute run s ∨ Effect c s t := by
  unfold deliver at h
  split at h
  · cases h; exact .inr (.same c s)
  · split at h
    · cases h; exact .inr (.same c s)
    · cases h; exact .inr (.same c s)
    · cases h; exact .inr (effect_clockOut c _ s)
    · split at h
      · cases h; exact .inl rfl
      · cases h

/-- A row that delivers the bytes of its command runs it. -/
theorem effect_of_deliver {c : Instr} {cmd : SetupCommand} {s t : State} (hc : c.setupCommand = some cmd)
    (h : deliver cmd.bytes (runCommand cmd) s = .next t) : Effect c s t := by
  rcases deliver_cases h c with rfl | he
  · exact .ran (.inl hc)
  · exact he

/-- Each of the 23 setup-command rows delivers the bytes of its command. -/
theorem exec_of_setupCommand {c : Instr} {cmd : SetupCommand} (hc : c.setupCommand = some cmd) (s : State) :
    exec c s = deliver cmd.bytes (runCommand cmd) s := by
  cases c <;> cases hc <;> rfl

theorem effect_execSetupByteShifted {b : Byte} {s t : State} (h : execSetupByteShifted b s = .next t) :
    Effect (.setupByteShifted b) s t := by
  unfold execSetupByteShifted at h
  split at h
  · cases h; exact .same _ s
  · split at h
    · cases h; exact .same _ s
    · cases h; exact .same _ s
    · cases h; exact effect_clockOut _ _ s
    · rename_i got hgot
      cases h
      unfold takeByte
      split
      · rename_i cmd hcmd
        exact .ran (.inr ⟨b, got, rfl, hgot, hcmd⟩)
      · split
        · rw [execute_refuse]; exact .port _ s _
        · exact .port _ s _

theorem effect_execUnknownCommand {b : Byte} {s t : State} (h : execUnknownCommand b s = .next t) :
    Effect (.unknownCommand b) s t := by
  unfold execUnknownCommand at h
  split at h
  · cases h
  · rcases deliver_cases h (.unknownCommand b) with rfl | he
    · rw [execute_refuse]; exact .port _ s _
    · exact he

theorem effect_execTransactionStart {s t : State} (h : execTransactionStart s = .next t) :
    Effect .transactionStart s t := by
  unfold execTransactionStart at h
  split at h
  · cases h; exact .port _ s _
  all_goals cases h; exact .same _ s

theorem effect_execTransactionEnd {s t : State} (h : execTransactionEnd s = .next t) : Effect .transactionEnd s t := by
  unfold execTransactionEnd at h
  dsimp only at h
  split at h
  · split at h
    · rename_i hr
      cases h
      exact .softReset _ (Bool.and_eq_true_iff.mp hr).1
    · cases h; exact .port _ s _
  · cases h; exact .port _ s _
  · cases h; exact .port _ s _
  · cases h; exact .same _ s

/-! ### Pins and time -/

theorem effect_execPinReset {s t : State} (h : execPinReset s = .next t) : Effect .pinReset s t := by
  unfold execPinReset at h
  split at h
  · cases h; exact .pinReset s _
  · cases h; exact .same _ s

theorem effect_execResetnRise {s t : State} (h : execResetnRise s = .next t) : Effect .resetnRise s t := by
  unfold execResetnRise at h
  split at h
  · cases h; exact .same _ s
  · cases h; exact .resetnRise s

theorem effect_execTimeBaseTick {s t : State} (h : execTimeBaseTick s = .next t) : Effect .timeBaseTick s t := by
  unfold execTimeBaseTick at h
  split at h
  · cases h; exact .tick s
  · cases h; exact .same _ s

theorem effect_execStallExpiry {s t : State} (h : execStallExpiry s = .next t) : Effect .stallExpiry s t := by
  unfold execStallExpiry at h
  split at h
  · rename_i hd
    cases h; exact .expiry hd
  · cases h; exact .same _ s

theorem effect_driveBlank {c : Instr} (hc : c = .blankStart ∨ c = .blankEnd ∨ ∃ v, c = .blankPinChange v) (high : Bool)
    (s : State) : Effect c s (driveBlank high s) := by
  unfold driveBlank
  dsimp only
  split
  · split
    · exact .blankStart hc s high
    · exact .blankEnd hc s high
    · exact .blankPin hc s high
  · exact .blankPin hc s high

theorem effect_execBlankStart {s t : State} (h : execBlankStart s = .next t) : Effect .blankStart s t := by
  unfold execBlankStart at h
  split at h
  · cases h; exact effect_driveBlank (.inl rfl) _ s
  · cases h; exact effect_driveBlank (.inl rfl) _ s
  · cases h; exact .same _ s

theorem effect_execBlankEnd {s t : State} (h : execBlankEnd s = .next t) : Effect .blankEnd s t := by
  unfold execBlankEnd at h
  split at h
  · cases h; exact effect_driveBlank (.inr (.inl rfl)) _ s
  · cases h; exact effect_driveBlank (.inr (.inl rfl)) _ s
  · cases h; exact .same _ s

/-! ### The bus ports -/

theorem effect_execSystemRead {word : WordAddr} {lanes : LaneMask} {s t : State}
    (h : execSystemRead word lanes s = .next t) : Effect (.systemRead word lanes) s t := by
  unfold execSystemRead at h
  split at h
  · cases h; exact .same _ s
  · rename_i hidle
    have hidle := not_not.mp hidle
    dsimp only at h
    split at h
    · cases h; exact .systemAnswered (.inl ⟨_, _, rfl⟩) hidle _
    · cases h; exact .readTaken _ _ hidle _

theorem effect_execSystemWrite {word : WordAddr} {lanes : LaneMask} {data : Word} {s t : State}
    (h : execSystemWrite word lanes data s = .next t) : Effect (.systemWrite word lanes data) s t := by
  unfold execSystemWrite at h
  split at h
  · cases h; exact .same _ s
  · rename_i hidle
    have hidle := not_not.mp hidle
    split at h
    · cases h; exact .systemAnswered (.inr ⟨_, _, _, rfl⟩) hidle _
    · rename_i hl
      cases h; exact .writeTaken _ _ hidle hl

theorem effect_execRefreshRead {word : WordAddr} {lanes : LaneMask} {s t : State}
    (h : execRefreshRead word lanes s = .next t) : Effect (.refreshRead word lanes) s t := by
  unfold execRefreshRead at h
  split at h
  · cases h; exact .same _ s
  · cases h; exact .refreshTaken (.inl ⟨_, _, rfl⟩) s _ _

theorem effect_execRefreshWrite {word : WordAddr} {lanes : LaneMask} {s t : State}
    (h : execRefreshWrite word lanes s = .next t) : Effect (.refreshWrite word lanes) s t := by
  unfold execRefreshWrite at h
  split at h
  · cases h; exact .same _ s
  · cases h; exact .refreshTaken (.inr ⟨_, _, rfl⟩) s _ _

/-! ### The memory port -/

theorem effect_execArbiterGrant {s t : State} (h : execArbiterGrant s = .next t) : Effect .arbiterGrant s t := by
  unfold execArbiterGrant at h
  split at h
  · cases h; exact .same _ s
  · rename_i hf
    split at h
    · rename_i r hr
      cases h; exact .granted hf hr
    · cases h; exact .same _ s

/-- The request of a kind in flight is the request in flight, and of that kind. -/
theorem inFlightOf_eq_some {k : ReqKind} {f : InFlight} {s : State} (h : inFlightOf k s = some f) :
    s.inFlight = some f ∧ f.req.kind = k := by
  unfold inFlightOf at h
  split at h
  · rename_i g hg
    split at h
    · rename_i hk
      cases h; exact ⟨hg, hk⟩
    · cases h
  · cases h

theorem effect_execSystemReadResponse {reply : ReadReply} {s t : State}
    (h : execSystemReadResponse reply s = .next t) : Effect (.systemReadResponse reply) s t := by
  unfold execSystemReadResponse at h
  split at h
  · rename_i f r hf hs
    cases h; exact .systemReadAnswered hf hs reply
  · cases h

theorem effect_execDestinationReadResponse {reply : ReadReply} {s t : State}
    (h : execDestinationReadResponse reply s = .next t) : Effect (.destinationReadResponse reply) s t := by
  unfold execDestinationReadResponse at h
  split at h
  · rename_i f w hf hs
    cases h; exact .destinationReadAnswered hf hs reply
  · cases h

theorem effect_execImmediateWriteResponse {reply : WriteReply} {s t : State}
    (h : execImmediateWriteResponse reply s = .next t) : Effect (.immediateWriteResponse reply) s t := by
  unfold execImmediateWriteResponse at h
  split at h
  · rename_i f w hf hs
    cases h; exact .immediateWriteAnswered hf hs reply
  · cases h

theorem effect_execRefreshReadResponse {reply : ReadReply} {s t : State}
    (h : execRefreshReadResponse reply s = .next t) : Effect (.refreshReadResponse reply) s t := by
  unfold execRefreshReadResponse at h
  split at h
  · rename_i f hf
    cases h; exact .refreshReadAnswered hf reply
  · cases h

theorem effect_execDrainReadResponse {reply : ReadReply} {s t : State}
    (h : execDrainReadResponse reply s = .next t) : Effect (.drainReadResponse reply) s t := by
  unfold execDrainReadResponse at h
  split at h
  · cases h
  · rename_i f hf
    have hdiscarded : Effect (.drainReadResponse reply) s (takeResponse f (readFailed reply) s) :=
      .discarded _ (.inl ⟨_, rfl⟩) (inFlightOf_eq_some hf).1
    obtain ⟨-, -, hdrain⟩ := batchView_fields (batchView_takeResponse f (readFailed reply) s)
    dsimp only at h
    split at h
    · cases h; exact hdiscarded
    · split at h
      · rename_i i e hi he
        rw [hdrain] at hi he
        cases h; exact .drainReadAnswered hf hi he reply
      · cases h; exact hdiscarded

theorem effect_execDrainWriteResponse {reply : WriteReply} {s t : State}
    (h : execDrainWriteResponse reply s = .next t) : Effect (.drainWriteResponse reply) s t := by
  unfold execDrainWriteResponse at h
  split at h
  · cases h
  · rename_i f hf
    have hdiscarded : Effect (.drainWriteResponse reply) s (takeResponse f (writeFailed reply) s) :=
      .discarded _ (.inr (.inl ⟨_, rfl⟩)) (inFlightOf_eq_some hf).1
    obtain ⟨-, -, hdrain⟩ := batchView_fields (batchView_takeResponse f (writeFailed reply) s)
    dsimp only at h
    split at h
    · cases h; exact hdiscarded
    · split at h
      · rename_i i hi
        rw [hdrain] at hi
        cases h; exact .drainWriteAnswered hf hi reply
      · cases h; exact hdiscarded

theorem effect_execRecordWriteResponse {reply : WriteReply} {s t : State}
    (h : execRecordWriteResponse reply s = .next t) : Effect (.recordWriteResponse reply) s t := by
  unfold execRecordWriteResponse at h
  split at h
  · cases h
  · rename_i f hf
    dsimp only at h
    split at h
    · cases h; exact .discarded _ (.inr (.inr ⟨_, rfl⟩)) (inFlightOf_eq_some hf).1
    · cases h; exact .recordWriteAnswered hf reply

/-! ### Every command -/

/-- A command that answers a next state has one of the effects. -/
theorem exec_effect {c : Instr} {s t : State} (h : exec c s = .next t) : Effect c s t := by
  cases hc : c.setupCommand with
  | some cmd =>
    rw [exec_of_setupCommand hc] at h
    exact effect_of_deliver hc h
  | none =>
    cases c with
    | transactionStart => exact effect_execTransactionStart h
    | transactionEnd => exact effect_execTransactionEnd h
    | unknownCommand b => exact effect_execUnknownCommand h
    | pinReset => exact effect_execPinReset h
    | resetnRise => exact effect_execResetnRise h
    | timeBaseTick => exact effect_execTimeBaseTick h
    | stallExpiry => exact effect_execStallExpiry h
    | blankStart => exact effect_execBlankStart h
    | blankEnd => exact effect_execBlankEnd h
    | systemRead word lanes => exact effect_execSystemRead h
    | systemWrite word lanes data => exact effect_execSystemWrite h
    | refreshRead word lanes => exact effect_execRefreshRead h
    | refreshWrite word lanes => exact effect_execRefreshWrite h
    | arbiterGrant => exact effect_execArbiterGrant h
    | systemReadResponse reply => exact effect_execSystemReadResponse h
    | destinationReadResponse reply => exact effect_execDestinationReadResponse h
    | immediateWriteResponse reply => exact effect_execImmediateWriteResponse h
    | drainReadResponse reply => exact effect_execDrainReadResponse h
    | drainWriteResponse reply => exact effect_execDrainWriteResponse h
    | recordWriteResponse reply => exact effect_execRecordWriteResponse h
    | refreshReadResponse reply => exact effect_execRefreshReadResponse h
    | setupByteShifted b => exact effect_execSetupByteShifted h
    | blankPinChange high => cases h; exact effect_driveBlank (.inr (.inr ⟨_, rfl⟩)) _ s
    | _ => cases hc

/-- What every effect of a command keeps, and the arrival of commands does not matter to, every step keeps. -/
theorem step_keeps {P : State → Prop} (queue : ∀ s q, P s → P { s with pending := q })
    (effect : ∀ c s t, P s → Effect c s t → P t) {s t : State} (hs : P s) (h : step s = .next t) : P t := by
  unfold step at h
  split at h
  · cases h; exact hs
  · exact effect _ _ _ (queue s _ hs) (exec_effect h)

end Sys2Proof.Machine
end

section
/-! PROOFS. The moves of the part. Every operation that the meanings share is a chain of small moves, each with the guard
under which the model makes it; what every move keeps, every chain keeps. Resets and CLEAR alone are no moves. -/

namespace Sys2Proof.Machine

/-- One small update of the state, with what is known of it where it is made. -/
inductive Move : State → State → Prop
  /-- The pins, the port wires and what else no range or form speaks of. -/
  | aside (s : State) (resetn blank : Bool) (setup : SetupPort) (sync : SyncMonitor) (refresh : RefreshPort)
      (answer : Option Answer) (f : Option InFlight) (q : List Instr) (e : Option ErrInfo) :
      Move s { s with resetn := resetn, blank := blank, setup := setup, sync := sync, refresh := refresh,
                      refreshAnswer := answer, inFlight := f, pending := q, ev.errinfo := e }
  | part (s : State) (p : PartState) : Move s { s with part := p }
  | batch (s : State) (b : BatchQueue) : Move s { s with batch := b }
  | port (s : State) (p : SysPort) (a : Option Answer) : Move s { s with sys := p, sysAnswer := a }
  | cfg (s : State) (c : Settings) (h : c.ringSize = s.cfg.ringSize) : Move s { s with cfg := c }
  | event (e : Event) (s : State) : Move s (raise e s)
  | counters {s : State} {c : Counters} (h : countersWf s → countersWf { s with ev.counters := c }) :
      Move s { s with ev.counters := c }
  | waits (r : Requester) (s : State) : Move s { s with waits := waitsAfter r s }
  | engine {s : State} {d : DrainEngine} (h : s.drain.ticks ≤ Config.countLimit → d.ticks ≤ Config.countLimit) :
      Move s { s with drain := d }
  | stall {s : State} {v : Stall} (h : stallTimerWf s → stallTimerWf { s with stall := v }) : Move s { s with stall := v }
  | composed {m : LaneMask} {u : Transform} (word : WordAddr) (i : SlotIx) (s : State) (hm : m ≠ 0#4)
      (hu : u.restrict m = u) : Move s (composeEntry word i m u s)
  | added {e : Entry} {s : State} (he : e.wf) (hn : findEntry e.word e.slot s = none) : Move s (addEntry e s)
  | removed (p : Entry → Bool) (s : State) : Move s { s with buf.entries := s.buf.entries.filter p }
  | mark (s : State) (n : Nat) : Move s { s with buf.highWater := n }
  | writerTested (s : State) : Move s (testWriter s)
  | writerGoes {s : State} {v : Writer}
      (h : recordInProgress { s with recs.writer := v } = true → recordInProgress s = true) :
      Move s { s with recs.writer := v }
  | wordZeroGranted {s : State} (h : s.recs.writer = .requested .word0) :
      Move s (grantWord0 { s with recs.writer := .inFlight .word0 })
  | queued {s : State} (r : Rec) (h : s.recs.records.length < Config.recordQueueDepth) :
      Move s { s with recs.records := s.recs.records ++ [r] }
  | lost (s : State) : Move s { s with recs.lost := satInc Config.byteLimit s.recs.lost }
  | consumed {n : Half} {s : State} (h : (s.recs.prod - n).toNat ≤ roomLimit s) : Move s { s with recs.cons := n }
  | ringPlaced {s : State} (base : WordAddr) {size : Nat} (hsize : size = 0 ∨ (4 ≤ size ∧ size ≤ 256))
      (hidle : s.recs.writer = .idle) :
      Move s { s with cfg.ringBase := base, cfg.ringSize := size, recs.prod := 0, recs.cons := 0, recs.lost := 0 }

/-- A chain of moves. -/
def Moves : State → State → Prop := Relation.ReflTransGen Move

theorem Moves.refl (s : State) : Moves s s := Relation.ReflTransGen.refl

theorem Moves.trans {s t u : State} (h : Moves s t) (k : Moves t u) : Moves s u := Relation.ReflTransGen.trans h k

theorem Move.moves {s t : State} (h : Move s t) : Moves s t := Relation.ReflTransGen.single h

/-- The engine changes, its ticks still in range. -/
theorem moves_engine {s : State} {d : DrainEngine} (h : s.drain.ticks ≤ Config.countLimit → d.ticks ≤ Config.countLimit) :
    Moves s { s with drain := d } := (Move.engine h).moves

/-- A setting changes, the ring still of its size. -/
theorem moves_cfg {s : State} {c : Settings} (h : c.ringSize = s.cfg.ringSize) : Moves s { s with cfg := c } :=
  (Move.cfg s c h).moves

/-- The wires change. -/
theorem moves_aside (s : State) (setup : SetupPort) (sync : SyncMonitor) (f : Option InFlight) :
    Moves s { s with setup := setup, sync := sync, inFlight := f } := (Move.aside s _ _ _ _ _ _ _ _ _).moves

/-- What every move keeps, a chain keeps. -/
theorem Moves.keeps {P : State → Prop} (hP : ∀ s t, P s → Move s t → P t) {s t : State} (h : Moves s t) (hs : P s) :
    P t := by
  induction h with
  | refl => exact hs
  | tail _ hmove ih => exact hP _ _ ih hmove

/-! ### Events, counters and error reports -/

theorem countUp_le {n : Nat} (h : n ≤ Config.countLimit) : countUp n ≤ Config.countLimit := by
  unfold countUp satInc
  split <;> omega

theorem satInc_le {limit n : Nat} (h : n ≤ limit) : satInc limit n ≤ limit := by
  unfold satInc
  split <;> omega

theorem moves_raise (e : Event) (s : State) : Moves s (raise e s) := (Move.event e s).moves

theorem moves_addFrame (s : State) : Moves s (modCounters Counters.addFrame s) :=
  (Move.counters fun ⟨h1, h2, h3, h4, h5, h6, h7, h8⟩ => ⟨countUp_le h1, h2, h3, h4, h5, h6, h7, h8⟩).moves

theorem moves_addDrained (s : State) : Moves s (modCounters Counters.addDrained s) :=
  (Move.counters fun ⟨h1, h2, h3, h4, h5, h6, h7, h8⟩ => ⟨h1, countUp_le h2, h3, h4, h5, h6, h7, h8⟩).moves

theorem moves_addTorn (s : State) : Moves s (modCounters Counters.addTorn s) :=
  (Move.counters fun ⟨h1, h2, h3, h4, h5, h6, h7, h8⟩ => ⟨h1, h2, countUp_le h3, h4, h5, h6, h7, h8⟩).moves

theorem moves_addForced (s : State) : Moves s (modCounters Counters.addForced s) :=
  (Move.counters fun ⟨h1, h2, h3, h4, h5, h6, h7, h8⟩ => ⟨h1, h2, h3, countUp_le h4, h5, h6, h7, h8⟩).moves

theorem moves_addStall (s : State) : Moves s (modCounters Counters.addStall s) :=
  (Move.counters fun ⟨h1, h2, h3, h4, h5, h6, h7, h8⟩ => ⟨h1, h2, h3, h4, countUp_le h5, h6, h7, h8⟩).moves

theorem moves_addExpiry (s : State) : Moves s (modCounters Counters.addExpiry s) :=
  (Move.counters fun ⟨h1, h2, h3, h4, h5, h6, h7, h8⟩ => ⟨h1, h2, h3, h4, h5, countUp_le h6, h7, h8⟩).moves

theorem moves_addLost (s : State) : Moves s (modCounters Counters.addLost s) :=
  (Move.counters fun ⟨h1, h2, h3, h4, h5, h6, h7, h8⟩ => ⟨h1, h2, h3, h4, h5, h6, countUp_le h7, h8⟩).moves

theorem moves_addMemoryError (s : State) : Moves s (modCounters Counters.addMemoryError s) :=
  (Move.counters fun ⟨h1, h2, h3, h4, h5, h6, h7, h8⟩ => ⟨h1, h2, h3, h4, h5, h6, h7, countUp_le h8⟩).moves

theorem moves_reportError (f : InFlight) (s : State) : Moves s (reportError f s) := by
  have hcount := (moves_raise .memErr s).trans (moves_addMemoryError _)
  unfold reportError
  split
  · exact .refl s
  · dsimp only
    split
    · exact hcount
    · exact hcount.trans (Move.aside _ _ _ _ _ _ _ _ _ _).moves

theorem moves_takeResponse (f : InFlight) (failed : Bool) (s : State) : Moves s (takeResponse f failed s) := by
  have htaken : Moves s { s with inFlight := none } := (Move.aside s _ _ _ _ _ _ _ _ _).moves
  unfold takeResponse
  dsimp only
  split
  · exact htaken.trans (moves_reportError f _)
  · exact htaken

/-! ### Records -/

theorem moves_testWriter (s : State) : Moves s (testWriter s) := (Move.writerTested s).moves

theorem moves_pushRecord (r : Rec) (s : State) : Moves s (pushRecord r s) := by
  unfold pushRecord
  split
  · rename_i hroom
    exact (Move.queued r hroom).moves.trans (moves_testWriter _)
  · exact ((Move.lost s).moves.trans (moves_raise .lost _)).trans (moves_addLost _)

theorem moves_snoopConsumer (n : Half) (s : State) : Moves s (snoopConsumer n s) := by
  unfold snoopConsumer
  split
  · rename_i hroom
    exact (Move.consumed hroom).moves.trans (moves_testWriter _)
  · exact moves_raise .ringErr s

/-! ### The write path -/

theorem moves_setWrite (w : WriteJob) (s : State) : Moves s (setWrite w s) := (Move.port s _ _).moves

theorem moves_answerSystem (a : Answer) (s : State) : Moves s (answerSystem a s) := (Move.port s _ _).moves

theorem moves_beginStall (c : StallCause) (s : State) : Moves s (beginStall c s) :=
  (Move.stall fun _ _ => Nat.zero_le _).moves.trans (moves_addStall _)

theorem moves_endStall (s : State) : Moves s (endStall s) := by
  refine (Move.stall (v := { s.stall with active := false, forceCloseOwed := false }) fun _ h => ?_).moves
  cases h

theorem moves_stepMemory (w : WriteJob) (s : State) : Moves s (stepMemory w s) := by
  unfold stepMemory
  split
  · exact moves_answerSystem _ s
  · exact moves_setWrite _ s

theorem moves_completePlain (w : WriteJob) (s : State) : Moves s (completePlain w s) := by
  unfold completePlain
  dsimp only
  split
  · exact (moves_setWrite _ s).trans (moves_snoopConsumer _ _)
  · exact moves_setWrite _ s

theorem moves_commitWithoutSlot (w : WriteJob) (s : State) : Moves s (commitWithoutSlot w s) := by
  unfold commitWithoutSlot
  split
  · exact (moves_setWrite _ s).trans (moves_beginStall _ _)
  · exact moves_completePlain w s

theorem moves_commitWithoutPlace (w : WriteJob) (s : State) : Moves s (commitWithoutPlace w s) :=
  (moves_setWrite _ s).trans (moves_beginStall _ _)

/-- A commit is made with lanes to hold (R64), so its entry has the form of R33. -/
theorem moves_commit {w : WriteJob} (hw : w.lanesToHold ≠ 0#4) (s : State) : Moves s (commit w s) := by
  rcases commit_cases w s with ⟨-, h⟩ | ⟨i, -, ⟨e, -, h⟩ | ⟨hnone, -, h⟩ | ⟨-, -, -, h⟩⟩
  · rw [h]; exact moves_commitWithoutSlot w s
  · rw [h]; exact (Move.composed _ i s hw w.holdTransform_restrict).moves.trans (moves_stepMemory _ _)
  · rw [h]; exact (Move.added (e := w.newEntry i) ⟨hw, w.holdTransform_restrict⟩ hnone).moves.trans (moves_stepMemory _ _)
  · rw [h]; exact moves_commitWithoutPlace w s

theorem moves_stepCommit (w : WriteJob) (s : State) : Moves s (stepCommit w s) := by
  unfold stepCommit
  split
  · exact moves_stepMemory w s
  · rename_i hw
    exact moves_commit hw s

theorem moves_stepDestination (w : WriteJob) (s : State) : Moves s (stepDestination w s) := by
  unfold stepDestination
  split
  · exact moves_setWrite _ s
  · exact moves_stepCommit w s

theorem moves_placeFreed (s : State) : Moves s (placeFreed s) := by
  rcases placeFreed_cases s with h | ⟨w, -, -, ⟨-, h⟩ | ⟨-, h⟩⟩
  · rw [h]; exact .refl s
  · rw [h]; exact ((moves_setWrite _ s).trans (moves_endStall _)).trans (moves_stepDestination _ _)
  · rw [h]; exact ((moves_setWrite _ s).trans (moves_endStall _)).trans (moves_stepCommit _ _)

/-! ### Batches and forces -/

theorem moves_modSlot (i : SlotIx) (g : Slot → Slot) (s : State) : Moves s (modSlot i g s) := (Move.batch s _).moves

theorem moves_openBatch (i : SlotIx) (s : State) : Moves s (openBatch i s) := (Move.batch s _).moves

theorem moves_closeSlot (r : CloseReason) (i : SlotIx) (s : State) : Moves s (closeSlot r i s) := (Move.batch s _).moves

theorem moves_releaseAll (s : State) : Moves s (releaseAll s) := (Move.batch s _).moves

theorem moves_releaseOldest (s : State) : Moves s (releaseOldest s) := by
  unfold releaseOldest
  split
  · exact moves_modSlot _ _ s
  · exact .refl s

theorem moves_extendDrainSet (s : State) : Moves s (extendDrainSet s) := by
  unfold extendDrainSet
  split
  · exact moves_engine id
  · exact .refl s

theorem moves_extendHorizon (q : Half) (s : State) : Moves s (extendHorizon q s) := by
  unfold extendHorizon
  split
  · exact .refl s
  · exact moves_engine id

theorem moves_extendHorizonTo (i : Option SlotIx) (s : State) : Moves s (extendHorizonTo i s) := by
  unfold extendHorizonTo
  split
  · exact moves_extendHorizon _ s
  · exact .refl s

theorem moves_forceCloseOwed (b : Bool) (s : State) : Moves s { s with stall.forceCloseOwed := b } :=
  (Move.stall (v := { s.stall with forceCloseOwed := b }) id).moves

theorem moves_closeAndOpen (r : CloseReason) (s : State) : Moves s (closeAndOpen r s) := by
  rcases closeAndOpen_cases r s with h | ⟨i, j, -, -, h⟩
  · rw [h]; exact .refl s
  · rw [h]; exact (moves_closeSlot r i s).trans (moves_openBatch j _)

theorem moves_closeAndForce (r : CloseReason) (s : State) : Moves s (closeAndForce r s) := by
  rcases closeAndForce_cases r s with h | ⟨i, j, -, -, h⟩
  · rw [h]; exact .refl s
  · rw [h]
    exact (((moves_closeSlot r i s).trans (moves_openBatch j _)).trans (moves_extendHorizon _ _)).trans
      (moves_forceCloseOwed false _)

theorem moves_enterPass (s : State) : Moves s (enterPass s) := by
  have hpass : Moves s (raise .quiesced { s with part := .pass }) := (Move.part s .pass).moves.trans (moves_raise _ _)
  unfold enterPass
  dsimp only
  split
  · split
    · exact (hpass.trans (moves_endStall _)).trans (moves_completePlain _ _)
    · exact hpass
  · exact hpass
  · exact hpass

theorem moves_takeWaitingClose (w : WriteJob) (s : State) : Moves s (takeWaitingClose w s) :=
  ((moves_closeAndOpen _ s).trans (moves_endStall _)).trans (moves_stepDestination w _)

theorem moves_slotFreed (s : State) : Moves s (slotFreed s) := by
  rcases slotFreed_cases s with h | ⟨-, -, h⟩ | ⟨-, ⟨w, -, h⟩ | h | h⟩
  · rw [h]; exact .refl s
  · rw [h]; exact moves_enterPass s
  · rw [h]; exact moves_takeWaitingClose w s
  · rw [h]; exact (Move.batch s _).moves.trans (moves_closeAndForce .command _)
  · rw [h]; exact moves_closeAndForce .force s

theorem moves_markForced (i : SlotIx) (s : State) : Moves s (markForced i s) :=
  ((moves_modSlot i _ s).trans (moves_raise .forced _)).trans (moves_addForced _)

theorem moves_startBatch (i : SlotIx) (forced : Bool) (s : State) : Moves s (startBatch i forced s) := by
  have hdraining := moves_modSlot i (fun b => { b with state := .draining, frameAtStart := s.sync.frameCounter }) s
  cases forced with
  | false => exact hdraining.trans (moves_engine fun _ => Nat.zero_le _)
  | true => exact (hdraining.trans (moves_markForced i _)).trans (moves_engine fun _ => Nat.zero_le _)

theorem moves_takeEntry (i : SlotIx) (e : Entry) (s : State) : Moves s (takeEntry i e s) := by
  unfold takeEntry
  split
  · exact (moves_modSlot i _ s).trans (moves_engine id)
  · exact moves_engine id

theorem moves_engineIdle (q : Half) (s : State) : Moves s (engineIdle q s) :=
  moves_engine id

theorem moves_completeBatch (i : SlotIx) (s : State) : Moves s (completeBatch i s) := by
  have hrecord := fun r : Rec => ((moves_modSlot i (fun b => { b with drainTime := s.drain.ticks }) s).trans
    (moves_pushRecord r _)).trans (moves_addDrained _)
  exact (((hrecord _).trans (moves_modSlot i (fun b => { b with state := .free }) _)).trans (moves_slotFreed _)).trans
    (moves_engineIdle _ _)

theorem moves_engineTest (s : State) : Moves s (engineTest s) :=
  engineTest_keeps (P := Moves s) (fun i forced _ h _ => h.trans (moves_startBatch i forced _))
    (fun i e _ h _ => h.trans (moves_takeEntry i e _)) (fun i _ h _ => h.trans (moves_completeBatch i _)) (.refl s)

theorem moves_nextEntry (i : SlotIx) (s : State) : Moves s (nextEntry i s) := by
  unfold nextEntry
  split
  · exact moves_takeEntry i _ s
  · exact (moves_completeBatch i s).trans (moves_engineTest _)

theorem moves_tornTest (i : SlotIx) (s : State) : Moves s (tornTest i s) := by
  unfold tornTest
  split
  · exact ((moves_modSlot i _ s).trans (moves_raise .torn _)).trans (moves_addTorn _)
  · exact .refl s

theorem moves_forceForPlace (s : State) : Moves s (forceForPlace s) := by
  have howed := (moves_forceCloseOwed true s).trans (moves_extendHorizonTo (youngestNonOpen s) _)
  unfold forceForPlace
  split
  · exact moves_extendHorizon _ s
  · dsimp only
    split
    · exact howed.trans (moves_closeAndForce .force _)
    · exact howed

theorem moves_forceFor (c : StallCause) (s : State) : Moves s (forceFor c s) := by
  cases c with
  | place => exact moves_forceForPlace s
  | slot => exact moves_extendHorizonTo _ s
  | pass => exact moves_extendHorizonTo _ s

theorem moves_expireStall (s : State) : Moves s (expireStall s) := by
  have hexpired : Moves s { s with stall.expired := true } := (Move.stall (v := { s.stall with expired := true }) id).moves
  exact (((hexpired.trans (moves_raise .expiry _)).trans (moves_addExpiry _)).trans (moves_forceFor _ _)).trans
    (moves_engineTest _)

/-! ### The system port -/

theorem moves_otherMarkEffect (w : WriteJob) (s : State) : Moves s (otherMarkEffect w s) := by
  unfold otherMarkEffect
  split
  · split
    · exact (moves_releaseOldest s).trans (moves_engineTest _)
    · exact .refl s
  · exact moves_snoopConsumer _ s
  · exact .refl s
  · exact .refl s

theorem moves_acceptClose (w : WriteJob) (s : State) : Moves s (acceptClose w s) := by
  unfold acceptClose
  split
  · exact ((moves_closeAndOpen _ s).trans (moves_engineTest _)).trans (moves_stepDestination w _)
  · exact (moves_setWrite _ s).trans (moves_beginStall .slot _)

theorem moves_acceptEngaged (w : WriteJob) (s : State) : Moves s (acceptEngaged w s) := by
  unfold acceptEngaged
  split
  · split
    · exact (moves_setWrite _ s).trans (moves_stepDestination _ _)
    · exact (moves_setWrite _ s).trans (moves_beginStall .place _)
  · split
    · exact moves_acceptClose w s
    · exact (moves_otherMarkEffect w s).trans (moves_stepDestination w _)

theorem moves_acceptQuiescing (w : WriteJob) (deferrable : Bool) (s : State) :
    Moves s (acceptQuiescing w deferrable s) := by
  unfold acceptQuiescing
  split
  · exact (moves_setWrite _ s).trans (moves_beginStall .pass _)
  · exact (moves_otherMarkEffect w s).trans (moves_stepDestination w _)

theorem moves_acceptWrite (word : WordAddr) (lanes : LaneMask) (data : Word) (s : State) :
    Moves s (acceptWrite word lanes data s) := by
  unfold acceptWrite
  split
  · exact (moves_otherMarkEffect _ s).trans (moves_stepMemory _ _)
  · exact moves_acceptEngaged _ s
  · exact moves_acceptQuiescing _ _ s

theorem moves_afterDestinationRead (w : WriteJob) (reply : ReadReply) (s : State) :
    Moves s (afterDestinationRead w reply s) := by
  unfold afterDestinationRead
  split
  · exact moves_stepMemory _ s
  · split
    · exact (moves_setWrite _ s).trans (moves_stepCommit _ _)
    · exact moves_answerSystem _ s

/-! ### Grants and the responses to the drain engine and the record writer -/

theorem moves_removeEntry (word : WordAddr) (i : SlotIx) (s : State) : Moves s (removeEntry word i s) :=
  (Move.removed _ s).moves

theorem moves_grantSystem (s : State) : Moves s (grantSystem s) := by
  unfold grantSystem
  split
  · exact .refl s
  · exact (Move.port s _ s.sysAnswer).moves
  · split
    · exact moves_setWrite _ s
    · exact moves_setWrite _ s
    all_goals exact .refl s

theorem moves_grantDrainWrite (i : SlotIx) (e : Entry) (s : State) : Moves s (grantDrainWrite i e s) := by
  have hgranted : Moves s { s with drain.access := .writeInFlight } :=
    moves_engine id
  exact (((hgranted.trans (moves_modSlot i _ _)).trans (moves_tornTest i _)).trans (moves_removeEntry _ _ _)).trans
    (moves_placeFreed _)

theorem moves_grantDrain (s : State) : Moves s (grantDrain s) := by
  unfold grantDrain
  split
  · split
    · exact moves_grantDrainWrite _ _ s
    · exact moves_engine id
  · exact .refl s

/-- A word in flight is part of a record in progress only when it was so as requested (R137). -/
theorem moves_grantRecord (s : State) : Moves s (grantRecord s) := by
  unfold grantRecord
  split
  · rename_i w hw
    dsimp only
    split
    · rename_i hzero
      subst hzero
      exact (Move.wordZeroGranted hw).moves
    · refine (Move.writerGoes fun _ => ?_).moves
      simp only [recordInProgress, hw]
  · exact .refl s
  · exact .refl s

theorem moves_putInFlight (q : MemRequest) (s : State) : Moves s (putInFlight q s) :=
  (Move.aside s _ _ _ _ _ _ _ _ _).moves

theorem moves_grantTo (r : Requester) (s : State) : Moves s (grantTo r s) := by
  have hasked (q : MemRequest) : Moves s (putInFlight q { s with waits := waitsAfter r s }) :=
    (Move.waits r s).moves.trans (moves_putInFlight q _)
  cases r with
  | refresh =>
    dsimp only [grantTo]
    split
    · exact (hasked _).trans (Move.aside _ _ _ _ _ _ _ _ _ _).moves
    · exact .refl s
  | record =>
    dsimp only [grantTo]
    split
    · exact (hasked _).trans (moves_grantRecord _)
    · exact .refl s
  | drain =>
    dsimp only [grantTo]
    split
    · exact (hasked _).trans (moves_grantDrain _)
    · exact .refl s
  | system =>
    dsimp only [grantTo]
    split
    · exact (hasked _).trans (moves_grantSystem _)
    · exact .refl s

theorem moves_drainError (i : SlotIx) (s : State) : Moves s (drainError i s) := moves_modSlot i _ s

theorem moves_countDrained (i : SlotIx) (s : State) : Moves s (countDrained i s) := moves_modSlot i _ s

theorem moves_afterDrainRead (i : SlotIx) (e : Entry) (reply : ReadReply) (s : State) :
    Moves s (afterDrainRead i e reply s) := by
  cases reply with
  | ok d => exact moves_engine id
  | error =>
    exact ((((moves_drainError i s).trans (moves_countDrained i _)).trans (moves_removeEntry _ _ _)).trans
      (moves_placeFreed _)).trans (moves_nextEntry i _)

theorem moves_afterDrainWrite (i : SlotIx) (reply : WriteReply) (s : State) : Moves s (afterDrainWrite i reply s) := by
  cases reply with
  | ok => exact moves_nextEntry i s
  | error => exact (moves_drainError i s).trans (moves_nextEntry i _)

theorem moves_afterRecordWrite (s : State) : Moves s (afterRecordWrite s) := by
  unfold afterRecordWrite
  split
  · rename_i w hw
    split
    · rename_i next hnext
      refine (Move.writerGoes fun _ => ?_).moves
      cases w with
      | word0 => cases hnext
      | _ => simp only [recordInProgress, hw]
    · refine (Move.writerGoes (v := .idle) fun h => ?_).moves.trans (moves_testWriter _)
      cases h
  · exact .refl s
  · exact .refl s

/-! ### Commands -/

theorem moves_stallToPass (s : State) : Moves s (stallToPass s) := by
  have hcause : Moves s { s with stall.cause := .pass, stall.forceCloseOwed := false } :=
    (Move.stall (v := { s.stall with cause := .pass, forceCloseOwed := false }) id).moves
  unfold stallToPass
  dsimp only
  split
  · exact hcause.trans (moves_extendHorizonTo _ _)
  · exact hcause

theorem moves_disengageWrite (s : State) : Moves s (disengageWrite s) := by
  unfold disengageWrite
  split
  · split
    · exact (moves_setWrite _ s).trans (moves_stallToPass _)
    · exact (moves_setWrite _ s).trans (moves_stallToPass _)
    · exact (moves_endStall s).trans (moves_stepMemory _ _)
    · exact moves_setWrite _ s
    · exact moves_setWrite _ s
    all_goals exact .refl s
  · exact .refl s
  · exact .refl s

theorem moves_disengageBatches (s : State) : Moves s (disengageBatches s) := by
  unfold disengageBatches
  split
  · exact (moves_closeSlot .command _ s).trans (moves_releaseAll _)
  · exact moves_releaseAll s

theorem moves_cmdDisengage (s : State) : Moves s (cmdDisengage s).next := by
  unfold cmdDisengage
  split
  · exact .refl s
  · have hquiescing : Moves s { s with part := .quiescing, batch.pendingClose := false } :=
      (Move.part s .quiescing).moves.trans (Move.batch _ _).moves
    exact (((hquiescing.trans (moves_disengageBatches _)).trans (moves_forceCloseOwed false _)).trans
      (moves_disengageWrite _)).trans (moves_engineTest _)

theorem moves_cmdDiscard (s : State) : Moves s (cmdDiscard s).next := by
  unfold cmdDiscard
  split
  · exact .refl s
  · show Moves s (discardOpen s)
    unfold discardOpen
    split
    · exact .refl s
    · split
      · exact (Move.removed _ s).moves.trans (moves_placeFreed _)
      · exact .refl s

theorem moves_flushEngaged (s : State) : Moves s (flushEngaged s) := by
  unfold flushEngaged
  dsimp only
  split
  · exact ((moves_closeAndForce .command s).trans (moves_releaseAll _)).trans (moves_extendHorizonTo _ _)
  · exact ((moves_releaseAll s).trans (Move.batch _ _).moves).trans (moves_extendHorizonTo _ _)

theorem moves_cmdFlush (s : State) : Moves s (cmdFlush s).next := by
  unfold cmdFlush
  split
  · exact .refl s
  · exact (moves_flushEngaged s).trans (moves_engineTest _)
  · exact (moves_extendHorizonTo _ s).trans (moves_engineTest _)

theorem moves_cmdEngage (s : State) : Moves s (cmdEngage s).next := by
  unfold cmdEngage
  split
  · exact .refl s
  · split
    · exact .refl s
    · split
      · exact .refl s
      · exact (Move.part s .engaged).moves.trans (moves_openBatch 0 _)

/-- A ring size that a size code names is 0 or from 4 to 256 (Table 11-6). -/
theorem ringSizeOfCode_range {z : Byte} {size : Nat} (h : ringSizeOfCode z = some size) :
    size = 0 ∨ (4 ≤ size ∧ size ≤ 256) := by
  unfold ringSizeOfCode at h
  split at h
  · cases h; exact .inl rfl
  · split at h
    · rename_i hz
      cases h
      have hlow : 2 ^ 2 ≤ 2 ^ z.toNat := Nat.pow_le_pow_right (by decide) hz.1
      have hhigh : 2 ^ z.toNat ≤ 2 ^ 8 := Nat.pow_le_pow_right (by decide) hz.2
      exact .inr ⟨hlow, hhigh⟩
    · cases h

theorem moves_cmdRing (base : WordAddr) (z : Byte) (s : State) : Moves s (cmdRing base z s).next := by
  unfold cmdRing
  split
  · exact .refl s
  · split
    · exact .refl s
    · rename_i hbusy
      have hidle : s.recs.writer = .idle := by
        simpa [writerWriting] using (not_or.mp hbusy).2
      split
      · exact .refl s
      · rename_i size hsize
        split
        · exact .refl s
        · split
          · exact .refl s
          · split
            · exact .refl s
            · exact (Move.ringPlaced base (ringSizeOfCode_range hsize) hidle).moves

theorem moves_setWindow (i : Fin 16) (w : Window) (s : State) : Moves s (setWindow i w s) := moves_cfg rfl

theorem moves_cmdWinWrite (p : WinParams) (s : State) : Moves s (cmdWinWrite p s).next := by
  unfold cmdWinWrite
  split
  · exact .refl s
  · split
    · exact .refl s
    · split
      · exact .refl s
      · exact moves_setWindow _ _ s

theorem moves_cmdWinEnable (v : Byte) (s : State) : Moves s (cmdWinEnable v s).next := by
  unfold cmdWinEnable
  split
  · exact .refl s
  · dsimp only
    split
    · exact .refl s
    · split
      · exact .refl s
      · exact moves_setWindow _ _ s

theorem moves_cmdWinDisable (v : Byte) (s : State) : Moves s (cmdWinDisable v s).next := by
  unfold cmdWinDisable
  split
  · exact .refl s
  · exact moves_setWindow _ _ s

theorem moves_cmdMarks (c r k : WordAddr) (s : State) : Moves s (cmdMarks c r k s).next := by
  unfold cmdMarks
  split
  · exact .refl s
  · split
    · exact .refl s
    · split
      · exact .refl s
      · split
        · exact .refl s
        · exact moves_cfg rfl

theorem moves_cmdSync (v : Byte) (s : State) : Moves s (cmdSync v s).next := by
  unfold cmdSync
  split
  · exact .refl s
  · split
    · exact .refl s
    · rename_i source _
      have hblanking : Moves s { s with sync.blanking := blankingFromPin source s.blank } := moves_aside s _ _ _
      exact hblanking.trans (moves_cfg rfl)

theorem moves_cmdTick (v : Byte) (s : State) : Moves s (cmdTick v s).next := by
  unfold cmdTick
  split
  · exact .refl s
  · split
    · exact .refl s
    · have hcycles : Moves s { s with sync.clkCycles := 0 } := moves_aside s _ _ _
      exact hcycles.trans (moves_cfg rfl)

theorem moves_cmdArbitration (v : Byte) (s : State) : Moves s (cmdArbitration v s).next := by
  unfold cmdArbitration
  split
  · exact moves_cfg rfl
  · exact .refl s

theorem moves_clearCounters (s : State) : Moves s (clearCounters s) := by
  have hzero : Moves s { s with ev.counters := Counters.zero } :=
    (Move.counters fun _ => by simp [countersWf, Counters.zero]).moves
  exact hzero.trans (Move.mark _ (occupancy s)).moves

theorem moves_cmdCounters (v : Byte) (s : State) : Moves s (cmdCounters v s).next := by
  unfold cmdCounters
  split
  · exact .refl s
  · split
    · exact moves_clearCounters s
    · exact .refl s

/-- Every command but CLEAR is a chain of moves. -/
theorem moves_runCommand {c : SetupCommand} (hc : ∀ f, c ≠ .clear f) (s : State) : Moves s (runCommand c s).next := by
  cases c with
  | clear f => exact absurd rfl (hc f)
  | ident => exact .refl s
  | status => exact .refl s
  | events => exact .refl s
  | mask m => exact moves_cfg rfl
  | winWrite p => exact moves_cmdWinWrite p s
  | winRead i =>
    dsimp only [runCommand, cmdWinRead]
    split <;> exact .refl s
  | winEnable i => exact moves_cmdWinEnable i s
  | winDisable i => exact moves_cmdWinDisable i s
  | marks c r k => exact moves_cmdMarks c r k s
  | ring b z => exact moves_cmdRing b z s
  | sync v => exact moves_cmdSync v s
  | stall l => exact moves_cfg rfl
  | arbitration v => exact moves_cmdArbitration v s
  | tick v => exact moves_cmdTick v s
  | engage => exact moves_cmdEngage s
  | disengage => exact moves_cmdDisengage s
  | discard => exact moves_cmdDiscard s
  | flush => exact moves_cmdFlush s
  | counters o => exact moves_cmdCounters o s
  | errinfo => exact (Move.aside s _ _ _ _ _ _ _ _ _).moves
  | softReset => exact (Move.aside s _ _ _ _ _ _ _ _ _).moves

theorem moves_execute {run : State → CommandOut} {s : State} (h : Moves s (run s).next) : Moves s (execute run s) :=
  h.trans (Move.aside _ _ _ _ _ _ _ _ _ _).moves

/-! ### Every effect -/

theorem DrainEngine.tick_ticks_le {d : DrainEngine} (h : d.ticks ≤ Config.countLimit) : d.tick.ticks ≤ Config.countLimit := by
  unfold DrainEngine.tick
  split
  · exact countUp_le h
  · exact h

/-- The stall timer counts below its limit alone (R121). -/
theorem stallTimerWf_tick {s : State} (h : stallTimerWf s) : stallTimerWf { s with stall := s.stall.tick } := by
  show s.stall.tick.active = true → s.stall.tick.elapsed.toNat ≤ s.stall.tick.limit.toNat
  unfold Stall.tick
  split
  · rename_i hc
    intro _
    have hlt : s.stall.elapsed < s.stall.limit := by simpa using (Bool.and_eq_true_iff.mp hc).2
    dsimp only
    bv_omega
  · exact h

theorem moves_raiseBlankStart (s : State) : Moves s (raiseBlankStart s) :=
  (((Move.aside s _ _ _ _ _ _ _ _ _).moves.trans (moves_addFrame _)).trans (moves_extendDrainSet _)).trans
    (moves_engineTest _)

/-- An effect is a chain of moves, the execution of CLEAR, or a reset. -/
theorem effect_moves {c : Instr} {s t : State} (h : Effect c s t) :
    Moves s t ∨ (∃ f, Completes c (.clear f) s ∧ t = execute (cmdClear f) s)
      ∨ (c = .transactionEnd ∧ ∃ p, t = softReset { s with setup := p })
      ∨ c = .pinReset ∧ ∃ p, t = { clearRuntime Settings.reset s with resetn := false, setup := p } := by
  cases h with
  | port p => exact .inl (Move.aside s _ _ _ _ _ _ _ _ _).moves
  | @ran _ cmd _ hcmd =>
    by_cases hclear : ∃ f, cmd = .clear f
    · obtain ⟨f, rfl⟩ := hclear
      exact .inr (.inl ⟨f, hcmd, rfl⟩)
    · exact .inl (moves_execute (moves_runCommand (not_exists.mp hclear) s))
  | softReset p hp => exact .inr (.inr (.inl ⟨rfl, _, rfl⟩))
  | pinReset p => exact .inr (.inr (.inr ⟨rfl, _, rfl⟩))
  | resetnRise => exact .inl (Move.aside s _ _ _ _ _ _ _ _ _).moves
  | tick =>
    have htimer : Moves s { s with stall := s.stall.tick } := (Move.stall stallTimerWf_tick).moves
    exact .inl ((htimer.trans (moves_engine DrainEngine.tick_ticks_le)).trans (moves_aside _ _ _ _))
  | expiry h => exact .inl (moves_expireStall s)
  | blankPin hc high => exact .inl (Move.aside s _ _ _ _ _ _ _ _ _).moves
  | blankStart hc high => exact .inl ((Move.aside s _ _ _ _ _ _ _ _ _).moves.trans (moves_raiseBlankStart _))
  | blankEnd hc high => exact .inl (Move.aside s _ _ _ _ _ _ _ _ _).moves
  | systemAnswered hc hs a => exact .inl (moves_answerSystem a s)
  | readTaken word lanes hs r => exact .inl (Move.port s _ _).moves
  | writeTaken word data hs hl => exact .inl ((Move.port s s.sys none).moves.trans (moves_acceptWrite _ _ _ _))
  | refreshTaken hc r a => exact .inl (Move.aside s _ _ _ _ _ _ _ _ _).moves
  | granted hf hr => exact .inl (moves_grantTo _ s)
  | systemReadAnswered hf hs reply => exact .inl ((moves_takeResponse _ _ s).trans (moves_answerSystem _ _))
  | destinationReadAnswered hf hs reply =>
    exact .inl ((moves_takeResponse _ _ s).trans (moves_afterDestinationRead _ _ _))
  | immediateWriteAnswered hf hs reply => exact .inl ((moves_takeResponse _ _ s).trans (moves_answerSystem _ _))
  | refreshReadAnswered hf reply =>
    exact .inl ((moves_takeResponse _ _ s).trans (Move.aside _ _ _ _ _ _ _ _ _ _).moves)
  | discarded failed hc hf => exact .inl (moves_takeResponse _ _ s)
  | drainReadAnswered hf hi he reply => exact .inl ((moves_takeResponse _ _ s).trans (moves_afterDrainRead _ _ _ _))
  | drainWriteAnswered hf hi reply => exact .inl ((moves_takeResponse _ _ s).trans (moves_afterDrainWrite _ _ _))
  | recordWriteAnswered hf reply => exact .inl ((moves_takeResponse _ _ s).trans (moves_afterRecordWrite _))

end Sys2Proof.Machine
end

section
/-! PROOFS. The form of the hold buffer, the ranges of the counts, the records within their queue and ring, and the flags:
what every move keeps, and what the three effects that are no moves do. -/

namespace Sys2Proof.Machine

/-- A soft reset is the clearing and then, at most, a snoop (R177, R143). -/
theorem moves_softReset (s : State) : Moves (clearRuntime s.cfg s) (softReset s) := by
  unfold softReset
  dsimp only
  split
  · exact moves_snoopConsumer _ _
  · exact .refl _

/-- What every move keeps, what CLEAR keeps, and what holds of every cleared state, every step keeps. -/
theorem step_keeps_of_moves {P : State → Prop} (move : ∀ s t, P s → Move s t → P t)
    (clear : ∀ f s, P s → P (execute (cmdClear f) s))
    (cleared : ∀ cfg s, P s → cfg = s.cfg ∨ cfg = Settings.reset → P (clearRuntime cfg s))
    {s t : State} (hs : P s) (h : step s = .next t) : P t := by
  refine step_keeps (fun s q hs => move s _ hs (.aside s _ _ _ _ _ _ _ _ _)) (fun c s t hs he => ?_) hs h
  rcases effect_moves he with hm | ⟨f, -, rfl⟩ | ⟨-, p, rfl⟩ | ⟨-, p, rfl⟩
  · exact hm.keeps move hs
  · exact clear f s hs
  · exact (moves_softReset _).keeps move (cleared s.cfg _ (move s _ hs (.aside s _ _ _ _ _ _ _ _ _)) (.inl rfl))
  · exact move _ _ (cleared Settings.reset s hs (.inr rfl)) (.aside _ _ _ _ _ _ _ _ _ _)

/-! ### The form of the hold buffer -/

theorem bufferWf_of_empty {s : State} (h : s.buf.entries = []) : bufferWf s := by
  simp [bufferWf, h]

theorem bufferWf_testWriter {s : State} (h : bufferWf s) : bufferWf (testWriter s) := by
  unfold testWriter
  split <;> exact h

theorem bufferWf_move {s t : State} (hs : bufferWf s) (h : Move s t) : bufferWf t := by
  cases h with
  | composed word i _ hm hu => exact bufferWf_composeEntry hs hm hu
  | added he hn => exact bufferWf_addEntry hs he hn
  | removed p => exact bufferWf_filter hs p rfl
  | writerTested => exact bufferWf_testWriter hs
  | _ => exact (bufferWf_congr rfl).mp hs

/-- Settles O3: composing, adding and removing entries keep the form, and no other move touches an entry. -/
theorem stepKeepsHoldBuffer : Obligations.StepKeepsHoldBuffer := by
  intro s t hs h
  exact step_keeps_of_moves (fun _ _ => bufferWf_move) (fun f s hs => (bufferWf_congr rfl).mp hs)
    (fun cfg s _ _ => bufferWf_of_empty rfl) hs h

/-! ### The counts -/

/-- The counters and timers are within their ranges. -/
def rangesWf (s : State) : Prop := countersWf s ∧ countsWf s ∧ stallTimerWf s

theorem waitsAfter_le {r : Requester} {s : State} (h : countsWf s) :
    (waitsAfter r s).record ≤ Config.countLimit ∧ (waitsAfter r s).drain ≤ Config.countLimit
      ∧ (waitsAfter r s).system ≤ Config.countLimit := by
  obtain ⟨hrecord, hdrain, hsystem, -, -⟩ := h
  have hcount (b : Bool) {n : Nat} (hn : n ≤ Config.countLimit) : (if b then countUp n else n) ≤ Config.countLimit := by
    split
    · exact countUp_le hn
    · exact hn
  cases r with
  | system => exact ⟨hcount _ hrecord, hcount _ hdrain, Nat.zero_le _⟩
  | drain => exact ⟨hcount _ hrecord, Nat.zero_le _, hcount _ hsystem⟩
  | record => exact ⟨Nat.zero_le _, hdrain, hsystem⟩
  | refresh => exact ⟨hcount _ hrecord, hdrain, hsystem⟩

theorem rangesWf_testWriter {s : State} (h : rangesWf s) : rangesWf (testWriter s) := by
  unfold testWriter
  split <;> exact h

theorem rangesWf_move {s t : State} (hs : rangesWf s) (h : Move s t) : rangesWf t := by
  obtain ⟨hcounters, hcounts, hstall⟩ := hs
  obtain ⟨hr, hd, hy, hticks, hlost⟩ := hcounts
  cases h with
  | counters h => exact ⟨h hcounters, ⟨hr, hd, hy, hticks, hlost⟩, hstall⟩
  | waits r =>
    obtain ⟨hr', hd', hy'⟩ := waitsAfter_le (r := r) ⟨hr, hd, hy, hticks, hlost⟩
    exact ⟨hcounters, ⟨hr', hd', hy', hticks, hlost⟩, hstall⟩
  | engine h => exact ⟨hcounters, ⟨hr, hd, hy, h hticks, hlost⟩, hstall⟩
  | stall h => exact ⟨hcounters, ⟨hr, hd, hy, hticks, hlost⟩, h hstall⟩
  | writerTested => exact rangesWf_testWriter ⟨hcounters, ⟨hr, hd, hy, hticks, hlost⟩, hstall⟩
  | wordZeroGranted _ => exact ⟨hcounters, ⟨hr, hd, hy, hticks, Nat.zero_le _⟩, hstall⟩
  | lost => exact ⟨hcounters, ⟨hr, hd, hy, hticks, satInc_le hlost⟩, hstall⟩
  | ringPlaced base hsize hidle => exact ⟨hcounters, ⟨hr, hd, hy, hticks, Nat.zero_le _⟩, hstall⟩
  | _ => exact ⟨hcounters, ⟨hr, hd, hy, hticks, hlost⟩, hstall⟩

theorem rangesWf_clearRuntime (cfg : Settings) (s : State) : rangesWf (clearRuntime cfg s) := by
  refine ⟨?_, ?_, fun h => ?_⟩
  · simp [countersWf, clearRuntime, Counters.zero]
  · simp [countsWf, clearRuntime, Waits.zero, DrainEngine.reset, RecordUnit.reset]
  · cases h

/-- Settles O10: every count saturates or restarts at 0, and the stall timer counts below its limit alone. -/
theorem stepKeepsCounts : Obligations.StepKeepsCounts := by
  intro s t hcounters hcounts hstall h
  exact step_keeps_of_moves (P := rangesWf) (fun _ _ => rangesWf_move) (fun f s hs => hs)
    (fun cfg s _ _ => rangesWf_clearRuntime cfg s) ⟨hcounters, hcounts, hstall⟩ h

/-! ### The records -/

/-- The record queue and the ring are as R136, R137 and R141 say. -/
def recordsWf (s : State) : Prop := recordQueueWf s ∧ ringRoomWf s

/-- Only the record unit and the ring size matter to it. -/
theorem recordsWf_congr {s t : State} (hr : s.recs = t.recs) (hc : s.cfg.ringSize = t.cfg.ringSize) :
    recordsWf s ↔ recordsWf t := by
  simp only [recordsWf, recordQueueWf, ringRoomWf, ringSizeWf, recordInProgress, unread, hr, hc]

/-- The writer starts on a queued record with room for it (R137). -/
theorem recordsWf_testWriter {s : State} (h : recordsWf s) : recordsWf (testWriter s) := by
  obtain ⟨⟨hdepth, hhead⟩, hsize, hunread, hroom⟩ := h
  unfold testWriter
  split
  · rename_i hstart
    obtain ⟨-, hqueued, hfree⟩ := hstart
    exact ⟨⟨hdepth, fun _ => hqueued⟩, hsize, hunread, fun _ => hfree⟩
  · exact ⟨⟨hdepth, hhead⟩, hsize, hunread, hroom⟩

theorem recordsWf_writer {s : State} {v : Writer} (h : recordsWf s)
    (hv : recordInProgress { s with recs.writer := v } = true → recordInProgress s = true) :
    recordsWf { s with recs.writer := v } := by
  obtain ⟨⟨hdepth, hhead⟩, hsize, hunread, hroom⟩ := h
  exact ⟨⟨hdepth, fun hp => hhead (hv hp)⟩, hsize, hunread, fun hp => hroom (hv hp)⟩

/-- The ring has fewer than 65,536 records, so a record written with room is one more unread (R139, R141). -/
theorem unread_succ {p c : Half} {size : Nat} (hsize : size ≤ 256) (h : (p - c).toNat < size) :
    (p + 1 - c).toNat ≤ size := by
  have hcomm : p + 1 - c = p - c + 1 := by bv_omega
  rw [hcomm, BitVec.toNat_add_of_lt]
  · exact h
  · show (p - c).toNat + 1 < 65536
    omega

theorem ringSizeWf_le {s : State} (h : ringSizeWf s) : s.cfg.ringSize ≤ 256 := by
  rcases h with h | ⟨-, h⟩
  · rw [h]; exact Nat.zero_le _
  · exact h

/-- At the grant of word 0 the head record leaves the queue and is one more unread (R139). -/
theorem recordsWf_wordZero {s : State} (h : recordsWf s) (hw : s.recs.writer = .requested .word0) :
    recordsWf (grantWord0 { s with recs.writer := .inFlight .word0 }) := by
  obtain ⟨⟨hdepth, -⟩, hsize, -, hroom⟩ := h
  have hprogress : recordInProgress s = true := by simp only [recordInProgress, hw]
  have hdone : recordInProgress (grantWord0 { s with recs.writer := .inFlight .word0 }) ≠ true := by
    simp only [recordInProgress, grantWord0_fields, ne_eq, Bool.false_eq_true, not_false_eq_true]
  refine ⟨⟨?_, fun hp => absurd hp hdone⟩, hsize, unread_succ (ringSizeWf_le hsize) (hroom hprogress),
    fun hp => absurd hp hdone⟩
  exact (List.tail_sublist _).length_le.trans hdepth

/-- A record joins a queue that has room for it (R136). -/
theorem recordsWf_queued {s : State} (h : recordsWf s) (r : Rec) (hr : s.recs.records.length < Config.recordQueueDepth) :
    recordsWf { s with recs.records := s.recs.records ++ [r] } := by
  obtain ⟨-, hring⟩ := h
  refine ⟨⟨?_, fun _ => List.append_ne_nil_of_right_ne_nil _ (List.cons_ne_nil _ _)⟩, hring⟩
  show (s.recs.records ++ [r]).length ≤ Config.recordQueueDepth
  rw [List.length_append]
  exact hr

/-- A count that C takes leaves room for the record in progress (R141). -/
theorem recordsWf_consumed {s : State} {n : Half} (h : recordsWf s) (hn : (s.recs.prod - n).toNat ≤ roomLimit s) :
    recordsWf { s with recs.cons := n } := by
  obtain ⟨hqueue, hsize, -, hroom⟩ := h
  unfold roomLimit at hn
  refine ⟨hqueue, hsize, ?_, fun hp => ?_⟩
  · show (s.recs.prod - n).toNat ≤ s.cfg.ringSize
    split at hn
    · exact hn.trans (Nat.sub_le _ _)
    · exact hn
  · have hp : recordInProgress s = true := hp
    have hpos := hroom hp
    rw [if_pos hp] at hn
    show (s.recs.prod - n).toNat < s.cfg.ringSize
    omega

/-- With P and C at 0 no record is unread. -/
theorem unread_le_of_zero {s : State} (hp : s.recs.prod = 0) (hc : s.recs.cons = 0) (n : Nat) : unread s ≤ n := by
  rw [unread, hp, hc]
  exact Nat.zero_le n

theorem recordsWf_move {s t : State} (hs : recordsWf s) (h : Move s t) : recordsWf t := by
  cases h with
  | @cfg _ c hc => exact (recordsWf_congr (s := s) (t := { s with cfg := c }) rfl hc.symm).mp hs
  | writerTested => exact recordsWf_testWriter hs
  | writerGoes hv => exact recordsWf_writer hs hv
  | wordZeroGranted hw => exact recordsWf_wordZero hs hw
  | queued r hr => exact recordsWf_queued hs r hr
  | consumed hn => exact recordsWf_consumed hs hn
  | ringPlaced base hsize hidle =>
    have hnone : recordInProgress s ≠ true := by simp [recordInProgress, hidle]
    exact ⟨⟨hs.1.1, fun hp => absurd hp hnone⟩, hsize, unread_le_of_zero rfl rfl _, fun hp => absurd hp hnone⟩
  | _ => exact (recordsWf_congr rfl rfl).mp hs

theorem recordsWf_clearRuntime {cfg : Settings} (hsize : cfg.ringSize = 0 ∨ (4 ≤ cfg.ringSize ∧ cfg.ringSize ≤ 256))
    (s : State) : recordsWf (clearRuntime cfg s) := by
  refine ⟨⟨Nat.zero_le _, fun hp => ?_⟩, hsize, unread_le_of_zero rfl rfl _, fun hp => ?_⟩ <;> cases hp

/-- Settles O5: a record starts and leaves only with room for it, and a consumer store takes no count beyond the room. -/
theorem stepKeepsRecords : Obligations.StepKeepsRecords := by
  intro s t hqueue hroom h
  refine step_keeps_of_moves (P := recordsWf) (fun _ _ => recordsWf_move) (fun f s hs => hs) (fun cfg s hs hcfg => ?_)
    ⟨hqueue, hroom⟩ h
  rcases hcfg with rfl | rfl
  · exact recordsWf_clearRuntime hs.2.1 s
  · exact recordsWf_clearRuntime (.inl rfl) s

/-! ### The flags -/

/-- The flags set in a byte stay set in another (R172). -/
def flagsKept (before after : Byte) : Prop := before &&& after = before

theorem flagsKept_or {b f : Byte} (h : flagsKept b f) (e : Byte) : flagsKept b (f ||| e) := by
  unfold flagsKept at h ⊢
  rw [← h]
  ext k hk
  simp only [BitVec.getElem_and, BitVec.getElem_or]
  cases b[k] <;> cases f[k] <;> cases e[k] <;> rfl

theorem testWriter_flags (s : State) : (testWriter s).ev.flags = s.ev.flags := by
  unfold testWriter
  split <;> rfl

/-- No move clears a flag. -/
theorem flagsKept_move {b : Byte} {s t : State} (hs : flagsKept b s.ev.flags) (h : Move s t) :
    flagsKept b t.ev.flags := by
  cases h with
  | event e => exact flagsKept_or hs _
  | wordZeroGranted _ => exact flagsKept_or hs _
  | writerTested => rw [testWriter_flags]; exact hs
  | _ => exact hs

/-- Settles O14: a flag goes by CLEAR and the two resets alone, which are the rows left out and the bytes of CLEAR. -/
theorem flagsStaySet : Obligations.FlagsStaySet := by
  intro c s t h hc
  rcases effect_moves (exec_effect h) with hm | ⟨f, hclear | ⟨b, -, rfl, -⟩, -⟩ | ⟨rfl, -⟩ | ⟨rfl, -⟩
  · exact hm.keeps (P := fun t => flagsKept s.ev.flags t.ev.flags) (fun _ _ => flagsKept_move) BitVec.and_self
  · cases c <;> cases hclear
    exact hc.elim
  · exact hc.elim
  · exact hc.elim
  · exact hc.elim

end Sys2Proof.Machine
end

section
/-! PROOFS. The configuration (chapter 1, 8.1, 9.4, 10.6): which effects reach it, and what its own commands keep of the
windows and the settings. -/

namespace Sys2Proof.Machine

/-! ### What keeps the configuration -/

theorem cfg_eq_of_outer {s t : State} (h : outer s = outer t) : s.cfg = t.cfg := by
  obtain ⟨-, -, hcfg, -⟩ := outer_fields h
  exact hcfg

@[simp] theorem outer_reportError (f : InFlight) (s : State) : outer (reportError f s) = outer s := by
  unfold reportError
  split
  · rfl
  · dsimp only
    split <;> rfl

theorem takeResponse_cfg (f : InFlight) (failed : Bool) (s : State) : (takeResponse f failed s).cfg = s.cfg := by
  unfold takeResponse
  dsimp only
  split
  · exact (cfg_eq_of_outer (outer_reportError f { s with inFlight := none })).trans rfl
  · rfl

@[simp] theorem outer_grantSystem (s : State) : outer (grantSystem s) = outer s := by
  unfold grantSystem
  split
  · rfl
  · rfl
  · split <;> rfl

@[simp] theorem outer_grantDrainWrite (i : SlotIx) (e : Entry) (s : State) :
    outer (grantDrainWrite i e s) = outer s := by
  simp only [grantDrainWrite, outer_placeFreed, outer_removeEntry, outer_tornTest, outer_countDrained]
  rfl

@[simp] theorem outer_grantDrain (s : State) : outer (grantDrain s) = outer s := by
  unfold grantDrain
  split
  · split
    · exact outer_grantDrainWrite _ _ s
    · rfl
  · rfl

@[simp] theorem outer_grantRecord (s : State) : outer (grantRecord s) = outer s := by
  unfold grantRecord
  split
  · dsimp only
    split <;> rfl
  · rfl
  · rfl

/-- A grant to a requester with a waiting request: the request goes in flight, the wait counts change, and the requester's
action is made (Table 9-2); without one nothing changes. -/
theorem grantTo_cases (r : Requester) (s : State) :
    grantTo r s = s
      ∨ ∃ q, let t := putInFlight q { s with waits := waitsAfter r s }
          (r = .refresh ∧ refreshRequest s = some q ∧ grantTo r s = grantRefresh t)
            ∨ (r = .record ∧ recordRequest s = some q ∧ grantTo r s = grantRecord t)
            ∨ (r = .drain ∧ drainRequest s = some q ∧ grantTo r s = grantDrain t)
            ∨ (r = .system ∧ systemRequest s = some q ∧ grantTo r s = grantSystem t) := by
  cases r with
  | refresh =>
    cases h : refreshRequest s with
    | none => exact .inl (by simp only [grantTo, h])
    | some q => exact .inr ⟨q, .inl ⟨rfl, rfl, by simp only [grantTo, h]⟩⟩
  | record =>
    cases h : recordRequest s with
    | none => exact .inl (by simp only [grantTo, h])
    | some q => exact .inr ⟨q, .inr (.inl ⟨rfl, rfl, by simp only [grantTo, h]⟩)⟩
  | drain =>
    cases h : drainRequest s with
    | none => exact .inl (by simp only [grantTo, h])
    | some q => exact .inr ⟨q, .inr (.inr (.inl ⟨rfl, rfl, by simp only [grantTo, h]⟩))⟩
  | system =>
    cases h : systemRequest s with
    | none => exact .inl (by simp only [grantTo, h])
    | some q => exact .inr ⟨q, .inr (.inr (.inr ⟨rfl, rfl, by simp only [grantTo, h]⟩))⟩

theorem grantTo_cfg (r : Requester) (s : State) : (grantTo r s).cfg = s.cfg := by
  rcases grantTo_cases r s with h | ⟨q, ⟨-, -, h⟩ | ⟨-, -, h⟩ | ⟨-, -, h⟩ | ⟨-, -, h⟩⟩
  · rw [h]
  · rw [h]; rfl
  · rw [h]; exact (cfg_eq_of_outer (outer_grantRecord _)).trans rfl
  · rw [h]; exact (cfg_eq_of_outer (outer_grantDrain _)).trans rfl
  · rw [h]; exact (cfg_eq_of_outer (outer_grantSystem _)).trans rfl

theorem afterDrainRead_cfg (i : SlotIx) (e : Entry) (reply : ReadReply) (s : State) :
    (afterDrainRead i e reply s).cfg = s.cfg := by
  cases reply with
  | ok d => rfl
  | error => exact cfg_eq_of_outer (by simp [afterDrainRead])

theorem afterDrainWrite_cfg (i : SlotIx) (reply : WriteReply) (s : State) : (afterDrainWrite i reply s).cfg = s.cfg := by
  cases reply with
  | ok => exact cfg_eq_of_outer (outer_nextEntry i s)
  | error => exact cfg_eq_of_outer (by simp [afterDrainWrite])

theorem afterRecordWrite_cfg (s : State) : (afterRecordWrite s).cfg = s.cfg := by
  unfold afterRecordWrite
  split
  · split
    · rfl
    · exact cfg_eq_of_outer (outer_testWriter { s with recs.writer := .idle })
  · rfl
  · rfl

theorem softReset_cfg (s : State) : (softReset s).cfg = s.cfg := by
  unfold softReset
  dsimp only
  split
  · exact (cfg_eq_of_outer (outer_snoopConsumer _ (clearRuntime s.cfg s))).trans rfl
  · rfl

theorem raiseBlankStart_cfg (s : State) : (raiseBlankStart s).cfg = s.cfg := by
  unfold raiseBlankStart
  dsimp only
  rw [cfg_eq_of_outer (outer_engineTest _), cfg_eq_of_outer (outer_extendDrainSet _)]
  rfl

/-- Only a command and a pin reset reach the configuration. -/
theorem effect_cfg {c : Instr} {s t : State} (h : Effect c s t) :
    t.cfg = s.cfg ∨ (∃ cmd, Completes c cmd s ∧ t.cfg = (runCommand cmd s).next.cfg)
      ∨ c = .pinReset ∧ t.cfg = Settings.reset := by
  cases h with
  | ran hcmd => exact .inr (.inl ⟨_, hcmd, rfl⟩)
  | pinReset p => exact .inr (.inr ⟨rfl, rfl⟩)
  | softReset p hp => exact .inl (softReset_cfg _)
  | expiry h => exact .inl (cfg_eq_of_outer (outer_expireStall s))
  | blankStart hc high => exact .inl (raiseBlankStart_cfg _)
  | writeTaken word data hs hl => exact .inl (cfg_eq_of_outer (outer_acceptWrite _ _ _ { s with sysAnswer := none }))
  | granted hf hr => exact .inl (grantTo_cfg _ s)
  | systemReadAnswered hf hs reply => exact .inl (takeResponse_cfg _ _ s)
  | destinationReadAnswered hf hs reply =>
    exact .inl ((cfg_eq_of_outer (outer_afterDestinationRead _ _ _)).trans (takeResponse_cfg _ _ s))
  | immediateWriteAnswered hf hs reply => exact .inl (takeResponse_cfg _ _ s)
  | refreshReadAnswered hf reply => exact .inl (takeResponse_cfg _ _ s)
  | discarded failed hc hf => exact .inl (takeResponse_cfg _ _ s)
  | drainReadAnswered hf hi he reply => exact .inl ((afterDrainRead_cfg _ _ _ _).trans (takeResponse_cfg _ _ s))
  | drainWriteAnswered hf hi reply => exact .inl ((afterDrainWrite_cfg _ _ _).trans (takeResponse_cfg _ _ s))
  | recordWriteAnswered hf reply => exact .inl ((afterRecordWrite_cfg _).trans (takeResponse_cfg _ _ s))
  | _ => exact .inl rfl

/-! ### What the commands outside the configuration keep -/

theorem cmdEngage_cfg (s : State) : (cmdEngage s).next.cfg = s.cfg := by
  unfold cmdEngage
  split
  · rfl
  · split
    · rfl
    · split <;> rfl

@[simp] theorem outer_stallToPass (s : State) : outer (stallToPass s) = outer s := by
  unfold stallToPass
  dsimp only
  split
  · exact outer_extendHorizonTo _ _
  · rfl

@[simp] theorem outer_disengageWrite (s : State) : outer (disengageWrite s) = outer s := by
  unfold disengageWrite
  split
  · split <;> simp
  · rfl
  · rfl

@[simp] theorem outer_disengageBatches (s : State) : outer (disengageBatches s) = outer s := by
  unfold disengageBatches
  split <;> simp

theorem cmdDisengage_cfg (s : State) : (cmdDisengage s).next.cfg = s.cfg := by
  unfold cmdDisengage
  split
  · rfl
  · refine cfg_eq_of_outer (t := s) ?_
    simp only [accept, outer_engineTest, outer_disengageWrite]
    exact outer_disengageBatches { s with part := .quiescing, batch.pendingClose := false }

theorem cmdDiscard_cfg (s : State) : (cmdDiscard s).next.cfg = s.cfg := by
  unfold cmdDiscard
  split
  · rfl
  · refine cfg_eq_of_outer (s := discardOpen s) ?_
    unfold discardOpen
    split
    · rfl
    · split <;> simp

@[simp] theorem outer_flushEngaged (s : State) : outer (flushEngaged s) = outer s := by
  unfold flushEngaged
  dsimp only
  split
  · simp
  · exact (outer_extendHorizonTo _ _).trans (outer_releaseAll s)

theorem cmdFlush_cfg (s : State) : (cmdFlush s).next.cfg = s.cfg := by
  unfold cmdFlush
  split
  · rfl
  · exact cfg_eq_of_outer (by simp [accept])
  · exact cfg_eq_of_outer (by simp [accept])

theorem cmdCounters_cfg (v : Byte) (s : State) : (cmdCounters v s).next.cfg = s.cfg := by
  unfold cmdCounters
  split
  · rfl
  · split <;> rfl

/-- The commands that can change the configuration. -/
def configures : SetupCommand → Bool
  | .mask _ | .winWrite _ | .winEnable _ | .winDisable _ | .marks _ _ _ | .ring _ _ | .sync _ | .tick _ | .stall _
  | .arbitration _ => true
  | .ident | .status | .events | .clear _ | .winRead _ | .engage | .disengage | .discard | .flush | .counters _ | .errinfo
  | .softReset => false

theorem runCommand_cfg {c : SetupCommand} (hc : configures c = false) (s : State) :
    (runCommand c s).next.cfg = s.cfg := by
  cases c with
  | winRead i =>
    dsimp only [runCommand, cmdWinRead]
    split <;> rfl
  | engage => exact cmdEngage_cfg s
  | disengage => exact cmdDisengage_cfg s
  | discard => exact cmdDiscard_cfg s
  | flush => exact cmdFlush_cfg s
  | counters o => exact cmdCounters_cfg o s
  | ident | status | events | clear _ | errinfo | softReset => rfl
  | mask _ | winWrite _ | winEnable _ | winDisable _ | marks _ _ _ | ring _ _ | sync _ | tick _ | stall _
  | arbitration _ => cases hc

/-- Settles O12: of the effects, a command and a pin reset alone reach the configuration, and of the commands those that
configure. -/
theorem configurationChangesOnlyByItsCommands : Obligations.ConfigurationChangesOnlyByItsCommands := by
  intro c s t h hne
  rcases effect_cfg (exec_effect h) with hkept | ⟨cmd, hrow | ⟨b, -, rfl, -⟩, hcfg⟩ | ⟨rfl, -⟩
  · exact absurd hkept hne
  · have hconf : configures cmd = true := by
      by_contra hnot
      exact hne (hcfg.trans (runCommand_cfg (Bool.eq_false_iff.mpr hnot) s))
    cases c <;> cases hrow <;> trivial
  · trivial
  · trivial

/-! ### The windows and the settings -/

/-- The windows and settings are as R6, R9, R97, R133 and R155 say. -/
def settingsKept (s : State) : Prop := windowsLegal s ∧ windowsApart s ∧ settingsWf s

/-- They are matters of the configuration alone. -/
theorem settingsKept_congr {s t : State} (h : s.cfg = t.cfg) : settingsKept s ↔ settingsKept t := by
  simp only [settingsKept, windowsLegal, windowsApart, settingsWf, windowAt, h]

theorem windowAt_setWindow (i j : Fin 16) (w : Window) (s : State) :
    windowAt j (setWindow i w s) = if i = j then w else windowAt j s := by
  simp only [windowAt, setWindow, Fin.getElem_fin, Vector.getElem_set, Fin.ext_iff]

/-- A window that is legal and, when enabled, apart from the protected words may stand in the table. -/
theorem settingsKept_setWindow {s : State} {i : Fin 16} {w : Window} (h : settingsKept s) (hlegal : w.legal = true)
    (hapart : w.enabled = true → ∀ a ∈ protectedWords s.cfg, w.covers a = false) : settingsKept (setWindow i w s) := by
  obtain ⟨hl, ha, hs⟩ := h
  refine ⟨fun j => ?_, fun j => ?_, hs⟩
  · rw [windowAt_setWindow]
    split
    · exact hlegal
    · exact hl j
  · rw [windowAt_setWindow]
    split
    · exact hapart
    · exact ha j

/-- WIN_WRITE stores a window that is legal and disabled (R5, R6). -/
theorem windowOfParams_legal {p : WinParams} {w : Window} (h : windowOfParams p = some w) :
    w.legal = true ∧ w.enabled = false := by
  unfold windowOfParams at h
  split at h
  · split at h
    · rename_i hc
      cases h
      obtain ⟨hshape, -⟩ := Bool.and_eq_true_iff.mp hc
      refine ⟨?_, rfl⟩
      have hlane : p.originLane.toNat < 4 := by
        simp only [legalShape, Bool.and_eq_true, decide_eq_true_eq] at hshape
        obtain ⟨⟨⟨⟨⟨⟨⟨⟨⟨hlane, -⟩, -⟩, -⟩, -⟩, -⟩, -⟩, -⟩, -⟩, -⟩ := hshape
        exact hlane
      have hsame : (p.originLane.extractLsb' 0 2).toNat = p.originLane.toNat := by
        rw [BitVec.extractLsb'_toNat]
        exact Nat.mod_eq_of_lt hlane
      show legalShape _ _ (p.originLane.extractLsb' 0 2).toNat _ _ _ = true
      rw [hsame]
      exact hshape
    · cases h
  · cases h

theorem settingsKept_cmdWinWrite {s : State} (h : settingsKept s) (p : WinParams) :
    settingsKept (cmdWinWrite p s).next := by
  unfold cmdWinWrite
  split
  · exact h
  · split
    · exact h
    · split
      · exact h
      · rename_i w hw
        obtain ⟨hlegal, hdisabled⟩ := windowOfParams_legal hw
        refine settingsKept_setWindow h hlegal fun he => ?_
        rw [hdisabled] at he
        cases he

theorem settingsKept_cmdWinEnable {s : State} (h : settingsKept s) (v : Byte) :
    settingsKept (cmdWinEnable v s).next := by
  unfold cmdWinEnable
  split
  · exact h
  · rename_i i _
    dsimp only
    split
    · exact h
    · split
      · exact h
      · rename_i hclear
        refine settingsKept_setWindow h (h.1 i) fun _ a ha => ?_
        simp only [List.any_eq_true, not_exists, not_and, Bool.not_eq_true] at hclear
        exact hclear a ha

theorem settingsKept_cmdWinDisable {s : State} (h : settingsKept s) (v : Byte) :
    settingsKept (cmdWinDisable v s).next := by
  unfold cmdWinDisable
  split
  · exact h
  · rename_i i _
    refine settingsKept_setWindow h (h.1 i) fun he => ?_
    cases he

/-- A word is protected when it is a configured watched word or a word of the ring (R9). -/
theorem mem_protectedWords (c : Settings) (a : WordAddr) :
    a ∈ protectedWords c ↔
      (∃ m, c.marks = some m ∧ (a = m.close ∨ a = m.release ∨ a = m.consumer)) ∨ a ∈ ringWords c.ringBase c.ringSize := by
  unfold protectedWords
  cases c.marks <;> simp [or_assoc]

/-- A word is covered when some enabled window of the table has one of its lanes (R9, R84). -/
theorem windowCovers_iff (a : WordAddr) (s : State) :
    windowCovers s.cfg a = true ↔ ∃ i : Fin 16, (windowAt i s).enabled = true ∧ (windowAt i s).covers a = true := by
  simp only [windowCovers, windowAt, List.any_eq_true, Bool.and_eq_true, Vector.mem_toList_iff]
  constructor
  · rintro ⟨w, hw, he, hc⟩
    obtain ⟨k, hk, rfl⟩ := Vector.mem_iff_getElem.mp hw
    exact ⟨⟨k, hk⟩, he, hc⟩
  · rintro ⟨i, he, hc⟩
    exact ⟨_, Vector.getElem_mem i.isLt, he, hc⟩

/-- No enabled window covers a word that no window covers. -/
theorem covers_eq_false_of_windowCovers {a : WordAddr} {s : State} (h : windowCovers s.cfg a ≠ true) (i : Fin 16)
    (he : (windowAt i s).enabled = true) : (windowAt i s).covers a = false := by
  by_contra hc
  exact h ((windowCovers_iff a s).mpr ⟨i, he, Bool.not_eq_false _ ▸ hc⟩)

theorem settingsKept_cmdMarks {s : State} (h : settingsKept s) (c r k : WordAddr) :
    settingsKept (cmdMarks c r k s).next := by
  obtain ⟨hl, ha, hs⟩ := h
  unfold cmdMarks
  split
  · exact ⟨hl, ha, hs⟩
  · split
    · exact ⟨hl, ha, hs⟩
    · split
      · exact ⟨hl, ha, hs⟩
      · split
        · exact ⟨hl, ha, hs⟩
        · rename_i hcover
          refine ⟨hl, fun i he a hmem => ?_, hs⟩
          rcases (mem_protectedWords _ a).mp hmem with ⟨m, hm, hmark⟩ | hring
          · obtain rfl := Option.some.inj hm
            simp only [List.any_cons, List.any_nil, Bool.or_false, Bool.or_eq_true, not_or] at hcover
            obtain ⟨hc, hr, hk⟩ := hcover
            rcases hmark with rfl | rfl | rfl
            · exact covers_eq_false_of_windowCovers hc i he
            · exact covers_eq_false_of_windowCovers hr i he
            · exact covers_eq_false_of_windowCovers hk i he
          · exact ha i he a ((mem_protectedWords s.cfg a).mpr (.inr hring))

/-- A ring that RING places ends inside frame memory (R133). -/
theorem ringPlacementLegal_end {base : WordAddr} {size : Nat} (h : ringPlacementLegal base size = true) :
    base.toNat + 4 * size ≤ Config.frameWords := by
  have hbase : base.toNat < 16777216 := base.isLt
  simp only [ringPlacementLegal, Bool.or_eq_true, Bool.and_eq_true, beq_iff_eq, decide_eq_true_eq] at h
  show base.toNat + 4 * size ≤ 16777216
  rcases h with h | ⟨-, h⟩
  · omega
  · have h : base.toNat + 4 * size - 1 < 16777216 := h
    omega

theorem settingsKept_cmdRing {s : State} (h : settingsKept s) (base : WordAddr) (z : Byte) :
    settingsKept (cmdRing base z s).next := by
  unfold cmdRing
  split
  · exact h
  · split
    · exact h
    · split
      · exact h
      · split
        · exact h
        · rename_i size _ hplace
          split
          · exact h
          · split
            · exact h
            · rename_i hcover
              obtain ⟨hl, ha, hshare, hshare', htick, -⟩ := h
              have hend := ringPlacementLegal_end (by simpa using hplace)
              refine ⟨hl, fun i he a hmem => ?_, hshare, hshare', htick, hend⟩
              rcases (mem_protectedWords _ a).mp hmem with hmark | hring
              · exact ha i he a ((mem_protectedWords s.cfg a).mpr (.inl hmark))
              · refine covers_eq_false_of_windowCovers (fun hc => hcover ?_) i he
                exact List.any_eq_true.mpr ⟨a, hring, hc⟩

theorem settingsKept_cmdSync {s : State} (h : settingsKept s) (v : Byte) : settingsKept (cmdSync v s).next := by
  unfold cmdSync
  split
  · exact h
  · split
    · exact h
    · exact h

theorem settingsKept_cmdTick {s : State} (h : settingsKept s) (v : Byte) : settingsKept (cmdTick v s).next := by
  unfold cmdTick
  split
  · exact h
  · split
    · exact h
    · rename_i hv
      obtain ⟨hl, ha, hshare, hshare', -, hring⟩ := h
      exact ⟨hl, ha, hshare, hshare', hv, hring⟩

theorem settingsKept_cmdArbitration {s : State} (h : settingsKept s) (v : Byte) :
    settingsKept (cmdArbitration v s).next := by
  unfold cmdArbitration
  split
  · rename_i hv
    obtain ⟨hl, ha, -, -, htick, hring⟩ := h
    exact ⟨hl, ha, hv.1, hv.2, htick, hring⟩
  · exact h

theorem settingsKept_runCommand {s : State} (h : settingsKept s) (c : SetupCommand) :
    settingsKept (runCommand c s).next := by
  cases hconf : configures c with
  | false => exact (settingsKept_congr (runCommand_cfg hconf s)).mpr h
  | true =>
    cases c with
    | mask m => exact h
    | winWrite p => exact settingsKept_cmdWinWrite h p
    | winEnable i => exact settingsKept_cmdWinEnable h i
    | winDisable i => exact settingsKept_cmdWinDisable h i
    | marks c r k => exact settingsKept_cmdMarks h c r k
    | ring b z => exact settingsKept_cmdRing h b z
    | sync v => exact settingsKept_cmdSync h v
    | tick v => exact settingsKept_cmdTick h v
    | stall l => exact h
    | arbitration v => exact settingsKept_cmdArbitration h v
    | _ => cases hconf

theorem windowAt_reset {s : State} (h : s.cfg = Settings.reset) (i : Fin 16) : windowAt i s = Window.reset := by
  simp only [windowAt, h, Settings.reset, Fin.getElem_fin, Vector.getElem_replicate]

theorem settingsKept_reset {s : State} (h : s.cfg = Settings.reset) : settingsKept s := by
  refine ⟨fun i => ?_, fun i he => ?_, ?_⟩
  · rw [windowAt_reset h]; decide
  · rw [windowAt_reset h] at he; cases he
  · unfold settingsWf
    rw [h]
    decide

/-- Settles O7: the commands that configure make the checks of R6, R9, R84, R97, R133 and R155 before they store. -/
theorem stepKeepsWindows : Obligations.StepKeepsWindows := by
  intro s t hlegal hapart hsettings h
  refine step_keeps (P := settingsKept) (fun s q hs => hs) (fun c s t hs he => ?_) ⟨hlegal, hapart, hsettings⟩ h
  rcases effect_cfg he with hkept | ⟨cmd, -, hcfg⟩ | ⟨-, hcfg⟩
  · exact (settingsKept_congr hkept).mpr hs
  · exact (settingsKept_congr hcfg).mpr (settingsKept_runCommand hs cmd)
  · exact settingsKept_reset hcfg

end Sys2Proof.Machine
end

section
/-! PROOFS. The states of the four slots (5.1, 6.3): what each operation makes of them, and that every step keeps one OPEN
slot in ENGAGED and none elsewhere, the current slot the one DRAINING, and every slot FREE in PASS. -/

namespace Sys2Proof.Machine

/-! ### The state of a slot after an update -/

theorem slotState_modSlot (i k : SlotIx) (g : Slot → Slot) (s : State) :
    slotState k (modSlot i g s) = if k = i then (g (slotOf i s)).state else slotState k s := by
  unfold slotState
  split
  · rename_i h
    rw [h, slotOf_modSlot_same]
  · rename_i h
    rw [slotOf_modSlot_ne g s h]

theorem slotState_openBatch (i k : SlotIx) (s : State) :
    slotState k (openBatch i s) = if k = i then .opened else slotState k s := by
  unfold slotState
  split
  · rename_i h
    rw [h, slotOf_openBatch_same]
  · rename_i h
    rw [slotOf_openBatch_ne s h]

/-- A close leaves its batch CLOSED or HELD (R77). -/
theorem close_state (r : CloseReason) (frame : Half) (b : Slot) :
    (b.close r frame).state = .closed ∨ (b.close r frame).state = .held := by
  cases r with
  | store tag hold => cases hold <;> simp [Slot.close]
  | command => exact .inl rfl
  | force => exact .inl rfl

/-- A released record is OPEN, DRAINING or FREE exactly when it was so before. -/
theorem letGo_state (b : Slot) {v : SlotState} (hv : v ≠ .closed) (hv' : v ≠ .held) :
    b.letGo.state = v ↔ b.state = v := by
  unfold Slot.letGo
  split
  · rename_i h
    rw [h]
    exact ⟨fun h => absurd h.symm hv, fun h => absurd h.symm hv'⟩
  · exact Iff.rfl

theorem openSlot_some {s : State} {i : SlotIx} (h : openSlot s = some i) : slotState i s = .opened := by
  obtain ⟨hp, -⟩ := lowestSlot_some h
  exact beq_iff_eq.mp hp

theorem freeSlot_some {s : State} {i : SlotIx} (h : freeSlot s = some i) : slotState i s = .free := by
  obtain ⟨hp, -⟩ := lowestSlot_some h
  exact beq_iff_eq.mp hp

theorem openSlot_none {s : State} : openSlot s = none ↔ ∀ k, slotState k s ≠ .opened := by
  simp only [openSlot, lowestSlot_none, beq_eq_false_iff_ne]

theorem allFree_iff (s : State) : allFree s = true ↔ ∀ i, slotState i s = .free := by
  simp only [allFree, List.all_eq_true, beq_iff_eq]
  exact ⟨fun h i => h i (mem_slots i), fun h i _ => h i⟩

/-- The batch the engine starts is CLOSED or HELD, and the engine is idle (R103). -/
theorem startChoice_some {s : State} {i : SlotIx} {forced : Bool} (h : startChoice s = some (i, forced)) :
    s.drain.current = none ∧ (slotState i s = .closed ∨ slotState i s = .held) := by
  unfold startChoice at h
  split at h
  · cases h
  · rename_i hidle
    split at h
    · cases h
    · dsimp only at h
      split at h
      · rename_i hc
        cases h
        exact ⟨hidle, .inl hc.1⟩
      · split at h
        · rename_i hc
          cases h
          exact ⟨hidle, hc.1⟩
        · cases h

/-! ### One state held by one slot -/

/-- The slots in a state are just the one named, if one is. -/
def holdsAlone (v : SlotState) (o : Option SlotIx) (s : State) : Prop := ∀ i, slotState i s = v ↔ o = some i

theorem mem_countedSlots (v : SlotState) (i : SlotIx) (s : State) :
    (i ∈ ([0, 1, 2, 3] : List SlotIx).filter fun i => slotState i s == v) ↔ slotState i s = v := by
  simp only [List.mem_filter, mem_slots, true_and, beq_iff_eq]

theorem countSlots_eq_zero {v : SlotState} {s : State} : countSlots v s = 0 ↔ holdsAlone v none s := by
  rw [countSlots, List.length_eq_zero_iff, List.eq_nil_iff_forall_not_mem]
  simp only [mem_countedSlots, holdsAlone, reduceCtorEq, iff_false]

theorem countSlots_eq_one {v : SlotState} {s : State} : countSlots v s = 1 ↔ ∃ i, holdsAlone v (some i) s := by
  rw [countSlots, List.length_eq_one_iff]
  refine exists_congr fun j => ?_
  have hnodup : (([0, 1, 2, 3] : List SlotIx).filter fun i => slotState i s == v).Nodup :=
    List.Nodup.filter _ (by decide)
  rw [← List.perm_singleton, List.perm_ext_iff_of_nodup hnodup (List.nodup_singleton j)]
  simp only [mem_countedSlots, List.mem_singleton, holdsAlone, Option.some.injEq, eq_comm]

/-- In ENGAGED one slot is OPEN, and none elsewhere (R80). -/
theorem oneOpen_iff (s : State) :
    oneOpen s ↔ ∃ o, holdsAlone .opened o s ∧ (s.part = .engaged ↔ o.isSome = true) := by
  unfold oneOpen
  by_cases hp : s.part = .engaged
  · simp only [hp, forall_const, ne_eq, not_true_eq_false, false_imp_iff, and_true, true_iff, countSlots_eq_one]
    constructor
    · rintro ⟨i, hi⟩
      exact ⟨some i, hi, rfl⟩
    · rintro ⟨_ | i, ho, hs⟩
      · cases hs
      · exact ⟨i, ho⟩
  · simp only [hp, false_imp_iff, ne_eq, not_false_eq_true, forall_const, true_and, false_iff, countSlots_eq_zero]
    constructor
    · exact fun h => ⟨none, h, by simp⟩
    · rintro ⟨_ | i, ho, hs⟩
      · exact ho
      · exact absurd rfl hs

/-! ### The three rules, for a slot that is to be the one DRAINING -/

/-- R80 and R76, with the DRAINING slot the one named: between the end of a batch and the engine's turning idle none is
DRAINING, though the engine still names the slot. -/
def slotsWf (c : Option SlotIx) (s : State) : Prop := oneOpen s ∧ holdsAlone .draining c s ∧ passFree s

theorem batchesWf_iff (s : State) : batchesWf s ↔ slotsWf s.drain.current s := by
  simp only [batchesWf, slotsWf, drainingWf, holdsAlone, eq_comm]

/-- Only the part state and the slot states matter. -/
theorem slotsWf_congr {c : Option SlotIx} {s t : State} (h : slotsWf c s) (hp : t.part = s.part)
    (hs : ∀ i, slotState i t = slotState i s) : slotsWf c t := by
  simp only [slotsWf, oneOpen_iff, holdsAlone, passFree, hp, hs] at h ⊢
  exact h

theorem slotsWf_of_batchView {c : Option SlotIx} {s t : State} (h : slotsWf c s) (hv : batchView t = batchView s) :
    slotsWf c t := by
  obtain ⟨hp, hb, -⟩ := batchView_fields hv
  exact slotsWf_congr h hp (slotState_congr hb)

/-- A slot record changed in other fields than its state. -/
theorem slotState_modSlot_of_state {g : Slot → Slot} (hg : ∀ b, (g b).state = b.state) (i k : SlotIx) (s : State) :
    slotState k (modSlot i g s) = slotState k s := by
  rw [slotState_modSlot]
  split
  · rename_i h
    rw [hg, h]
    rfl
  · rfl

/-- With a slot OPEN the part is ENGAGED. -/
theorem engaged_of_opened {c : Option SlotIx} {s : State} (h : slotsWf c s) {i : SlotIx} (hi : slotState i s = .opened) :
    s.part = .engaged := by
  obtain ⟨o, ho, hpart⟩ := (oneOpen_iff s).mp h.1
  exact hpart.mpr (by rw [(ho i).mp hi]; rfl)

/-- A slot in use is not in PASS. -/
theorem not_pass_of_not_free {c : Option SlotIx} {s : State} (h : slotsWf c s) {i : SlotIx} (hi : slotState i s ≠ .free) :
    s.part ≠ .pass := by
  obtain ⟨-, -, hfree⟩ := h
  exact fun hp => hi (hfree hp i)

/-- The OPEN slot is closed and a FREE one opened, in one step. -/
theorem slotsWf_close_open {c : Option SlotIx} {s t : State} {i j : SlotIx} (h : slotsWf c s)
    (hi : slotState i s = .opened) (hj : slotState j s = .free) (hp : t.part = s.part)
    (hclosed : slotState i t = .closed ∨ slotState i t = .held) (hopened : slotState j t = .opened)
    (hrest : ∀ k, k ≠ i → k ≠ j → slotState k t = slotState k s) : slotsWf c t := by
  have hpart := engaged_of_opened h hi
  obtain ⟨hone, hdrain, -⟩ := h
  obtain ⟨o, ho, -⟩ := (oneOpen_iff s).mp hone
  have hoi := (ho i).mp hi
  refine ⟨(oneOpen_iff t).mpr ⟨some j, fun k => ?_, by simp [hp, hpart]⟩, fun k => ?_, fun hpass => ?_⟩
  · rcases eq_or_ne k j with rfl | hkj
    · simp [hopened]
    · rcases eq_or_ne k i with rfl | hki
      · have hne : slotState k t ≠ .opened := by rcases hclosed with h | h <;> rw [h] <;> decide
        exact ⟨fun h => absurd h hne, fun h => absurd (Option.some.inj h).symm hkj⟩
      · rw [hrest k hki hkj, ho k, hoi]
        exact ⟨fun h => absurd (Option.some.inj h).symm hki, fun h => absurd (Option.some.inj h).symm hkj⟩
  · rcases eq_or_ne k j with rfl | hkj
    · rw [← hdrain k, hopened, hj]; decide
    · rcases eq_or_ne k i with rfl | hki
      · have hne : slotState k t ≠ .draining := by rcases hclosed with h | h <;> rw [h] <;> decide
        rw [← hdrain k, hi]
        exact ⟨fun h => absurd h hne, fun h => by cases h⟩
      · rw [hrest k hki hkj]; exact hdrain k
  · rw [hp, hpart] at hpass
    cases hpass

/-- What the close of the OPEN slot and the opening of a FREE one make of the slot states. -/
theorem slotState_close_open {r : CloseReason} {s : State} {i j : SlotIx} (hi : slotState i s = .opened)
    (hj : slotState j s = .free) :
    (slotState i (openBatch j (closeSlot r i s)) = .closed ∨ slotState i (openBatch j (closeSlot r i s)) = .held)
      ∧ slotState j (openBatch j (closeSlot r i s)) = .opened
      ∧ ∀ k, k ≠ i → k ≠ j → slotState k (openBatch j (closeSlot r i s)) = slotState k s := by
  have hij : i ≠ j := by
    rintro rfl
    rw [hi] at hj
    cases hj
  refine ⟨?_, by rw [slotState_openBatch, if_pos rfl], fun k hki hkj => ?_⟩
  · rw [slotState_openBatch, if_neg hij, closeSlot, slotState_modSlot, if_pos rfl]
    exact close_state _ _ _
  · rw [slotState_openBatch, if_neg hkj, closeSlot, slotState_modSlot, if_neg hki]

theorem extendHorizon_slotState (q : Half) (i : SlotIx) (s : State) : slotState i (extendHorizon q s) = slotState i s := by
  unfold extendHorizon
  split <;> rfl

theorem extendHorizon_part (q : Half) (s : State) : (extendHorizon q s).part = s.part := by
  unfold extendHorizon
  split <;> rfl

theorem extendHorizon_current (q : Half) (s : State) : (extendHorizon q s).drain.current = s.drain.current := by
  unfold extendHorizon
  split <;> rfl

theorem extendHorizonTo_slotState (o : Option SlotIx) (i : SlotIx) (s : State) :
    slotState i (extendHorizonTo o s) = slotState i s := by
  unfold extendHorizonTo
  split
  · exact extendHorizon_slotState _ i s
  · rfl

theorem extendHorizonTo_part (o : Option SlotIx) (s : State) : (extendHorizonTo o s).part = s.part := by
  unfold extendHorizonTo
  split
  · exact extendHorizon_part _ s
  · rfl

theorem extendHorizonTo_current (o : Option SlotIx) (s : State) :
    (extendHorizonTo o s).drain.current = s.drain.current := by
  unfold extendHorizonTo
  split
  · exact extendHorizon_current _ s
  · rfl

theorem slotsWf_closeAndOpen {c : Option SlotIx} {s : State} (h : slotsWf c s) (r : CloseReason) :
    slotsWf c (closeAndOpen r s) := by
  rcases closeAndOpen_cases r s with heq | ⟨i, j, hi, hj, heq⟩
  · rw [heq]; exact h
  · obtain ⟨hclosed, hopened, hrest⟩ := slotState_close_open (r := r) (openSlot_some hi) (freeSlot_some hj)
    rw [heq]
    exact slotsWf_close_open h (openSlot_some hi) (freeSlot_some hj) rfl hclosed hopened hrest

theorem slotsWf_closeAndForce {c : Option SlotIx} {s : State} (h : slotsWf c s) (r : CloseReason) :
    slotsWf c (closeAndForce r s) := by
  rcases closeAndForce_cases r s with heq | ⟨i, j, hi, hj, heq⟩
  · rw [heq]; exact h
  · obtain ⟨hclosed, hopened, hrest⟩ := slotState_close_open (r := r) (openSlot_some hi) (freeSlot_some hj)
    have hext := extendHorizon_slotState (slotOf i s).sequence
    rw [heq]
    refine slotsWf_close_open h (openSlot_some hi) (freeSlot_some hj) (extendHorizon_part _ _)
      ((hext i _).symm ▸ hclosed) ((hext j _).trans hopened) fun k hki hkj => (hext k _).trans (hrest k hki hkj)

theorem closeAndOpen_current (r : CloseReason) (s : State) : (closeAndOpen r s).drain.current = s.drain.current := by
  rcases closeAndOpen_cases r s with heq | ⟨i, j, -, -, heq⟩
  · rw [heq]
  · rw [heq]; rfl

theorem closeAndForce_current (r : CloseReason) (s : State) : (closeAndForce r s).drain.current = s.drain.current := by
  rcases closeAndForce_cases r s with heq | ⟨i, j, -, -, heq⟩
  · rw [heq]
  · rw [heq]; exact extendHorizon_current _ _

/-! ### A freed slot -/

/-- What enters PASS besides the part state leaves the slots. -/
theorem enterPass_batchView (s : State) : batchView (enterPass s) = batchView { s with part := .pass } := by
  unfold enterPass
  dsimp only
  split
  · split
    · rw [batchView_completePlain]; rfl
    · rfl
  · rfl
  · rfl

theorem slotsWf_enterPass {c : Option SlotIx} {s : State} (h : slotsWf c s) (hfree : ∀ i, slotState i s = .free) :
    slotsWf c (enterPass s) := by
  obtain ⟨-, hdrain, -⟩ := h
  refine slotsWf_of_batchView (s := { s with part := .pass }) ?_ (enterPass_batchView s)
  refine ⟨(oneOpen_iff _).mpr ⟨none, fun i => ?_, by simp⟩, hdrain, fun _ => hfree⟩
  have hi : slotState i { s with part := .pass } = .free := hfree i
  simp [hi]

theorem slotsWf_takeWaitingClose {c : Option SlotIx} {s : State} (h : slotsWf c s) (w : WriteJob) :
    slotsWf c (takeWaitingClose w s) := by
  have hview : batchView (takeWaitingClose w s) = batchView (closeAndOpen (closeReasonOf w.data) s) := by
    simp [takeWaitingClose]
  exact slotsWf_of_batchView (slotsWf_closeAndOpen h _) hview

theorem slotsWf_slotFreed {c : Option SlotIx} {s : State} (h : slotsWf c s) : slotsWf c (slotFreed s) := by
  rcases slotFreed_cases s with heq | ⟨-, hfree, heq⟩ | ⟨-, ⟨w, -, heq⟩ | heq | heq⟩
  · rw [heq]; exact h
  · rw [heq]; exact slotsWf_enterPass h ((allFree_iff s).mp hfree)
  · rw [heq]; exact slotsWf_takeWaitingClose h w
  · have hcleared : slotsWf c { s with batch.pendingClose := false } := slotsWf_congr h rfl fun _ => rfl
    rw [heq]; exact slotsWf_closeAndForce hcleared .command
  · rw [heq]; exact slotsWf_closeAndForce h .force

/-! ### The course of a batch -/

theorem slotState_startBatch (i k : SlotIx) (forced : Bool) (s : State) :
    slotState k (startBatch i forced s) = if k = i then .draining else slotState k s := by
  have hstart := slotState_modSlot i k (fun b => { b with state := .draining, frameAtStart := s.sync.frameCounter }) s
  cases forced with
  | false => exact hstart
  | true =>
    exact (slotState_modSlot_of_state (g := fun b : Slot => { b with forced := true }) (fun _ => rfl) i k _).trans hstart

theorem startBatch_part (i : SlotIx) (forced : Bool) (s : State) : (startBatch i forced s).part = s.part := by
  cases forced <;> rfl

theorem startBatch_current (i : SlotIx) (forced : Bool) (s : State) :
    (startBatch i forced s).drain.current = some i := by
  cases forced <;> rfl

theorem slotsWf_startBatch {s : State} {i : SlotIx} (h : slotsWf none s)
    (hi : slotState i s = .closed ∨ slotState i s = .held) (forced : Bool) :
    slotsWf (some i) (startBatch i forced s) := by
  have hused : slotState i s ≠ .free := by rcases hi with h | h <;> rw [h] <;> decide
  have hnotOpen : slotState i s ≠ .opened := by rcases hi with h | h <;> rw [h] <;> decide
  have hpass := not_pass_of_not_free h hused
  obtain ⟨hone, hdrain, -⟩ := h
  obtain ⟨o, ho, hpart⟩ := (oneOpen_iff s).mp hone
  refine ⟨(oneOpen_iff _).mpr ⟨o, fun k => ?_, by rw [startBatch_part]; exact hpart⟩, fun k => ?_, fun hp => ?_⟩
  · rw [slotState_startBatch, ← ho k]
    split
    · rename_i hk
      rw [hk]
      simp [hnotOpen]
    · exact Iff.rfl
  · rw [slotState_startBatch, Option.some.injEq]
    split
    · rename_i hk
      simp [hk]
    · rename_i hk
      rw [hdrain k]
      simp [Ne.symm hk]
  · rw [startBatch_part] at hp
    exact absurd hp hpass

theorem takeEntry_slotState (i : SlotIx) (e : Entry) (k : SlotIx) (s : State) :
    slotState k (takeEntry i e s) = slotState k s := by
  unfold takeEntry
  split
  · exact slotState_modSlot_of_state (g := fun b => { b with rmwCount := b.rmwCount + 1 }) (fun _ => rfl) i k s
  · rfl

theorem takeEntry_part (i : SlotIx) (e : Entry) (s : State) : (takeEntry i e s).part = s.part := by
  unfold takeEntry
  split <;> rfl

theorem takeEntry_current (i : SlotIx) (e : Entry) (s : State) :
    (takeEntry i e s).drain.current = s.drain.current := by
  unfold takeEntry
  split <;> rfl

/-- A completing batch up to the point at which its slot is FREE (R110, steps 1 to 4). -/
def freedState (i : SlotIx) (s : State) : State :=
  let t := modSlot i (fun b => { b with drainTime := s.drain.ticks }) s
  modSlot i (fun b => { b with state := .free })
    (modCounters Counters.addDrained (pushRecord (slotOf i t).toRec t))

theorem completeBatch_eq (i : SlotIx) (s : State) :
    completeBatch i s = engineIdle (slotOf i s).sequence (slotFreed (freedState i s)) := by
  have hslot : slotOf i (modSlot i (fun b => { b with drainTime := s.drain.ticks }) s)
      = { slotOf i s with drainTime := s.drain.ticks } := slotOf_modSlot_same _ _ _
  simp only [completeBatch, freedState, hslot]

theorem freedState_slotState (i k : SlotIx) (s : State) :
    slotState k (freedState i s) = if k = i then .free else slotState k s := by
  have hkept (r : Rec) : slotState k (modCounters Counters.addDrained
      (pushRecord r (modSlot i (fun b => { b with drainTime := s.drain.ticks }) s))) = slotState k s := by
    obtain ⟨-, hb, -⟩ := batchView_fields (batchView_pushRecord r
      (modSlot i (fun b => { b with drainTime := s.drain.ticks }) s))
    exact (slotState_congr hb k).trans
      (slotState_modSlot_of_state (g := fun b => { b with drainTime := s.drain.ticks }) (fun _ => rfl) i k s)
  rw [freedState, slotState_modSlot]
  split
  · rfl
  · exact hkept _

theorem freedState_part (i : SlotIx) (s : State) : (freedState i s).part = s.part := by
  obtain ⟨hp, -, -⟩ := batchView_fields (batchView_pushRecord
    (slotOf i (modSlot i (fun b => { b with drainTime := s.drain.ticks }) s)).toRec
    (modSlot i (fun b => { b with drainTime := s.drain.ticks }) s))
  exact hp

/-- The DRAINING slot becomes FREE. -/
theorem slotsWf_freedState {s : State} {i : SlotIx} (h : slotsWf (some i) s) : slotsWf none (freedState i s) := by
  have hi : slotState i s = .draining := (h.2.1 i).mpr rfl
  have hpass := not_pass_of_not_free h (i := i) (by rw [hi]; decide)
  obtain ⟨hone, hdrain, -⟩ := h
  obtain ⟨o, ho, hpart⟩ := (oneOpen_iff s).mp hone
  refine ⟨(oneOpen_iff _).mpr ⟨o, fun k => ?_, by rw [freedState_part]; exact hpart⟩, fun k => ?_, fun hp => ?_⟩
  · rw [freedState_slotState, ← ho k]
    split
    · rename_i hk
      rw [hk, hi]; decide
    · exact Iff.rfl
  · rw [freedState_slotState]
    split
    · simp
    · rename_i hk
      rw [hdrain k]
      simp [Ne.symm hk]
  · rw [freedState_part] at hp
    exact absurd hp hpass

theorem slotsWf_completeBatch {s : State} {i : SlotIx} (h : slotsWf (some i) s) : slotsWf none (completeBatch i s) := by
  rw [completeBatch_eq]
  exact slotsWf_congr (slotsWf_slotFreed (slotsWf_freedState h)) rfl fun _ => rfl

theorem completeBatch_current (i : SlotIx) (s : State) : (completeBatch i s).drain.current = none := rfl

/-- The rule for the engine's test, with the batch that completes the engine's current one. -/
theorem engineTest_keeps_current {P : State → Prop}
    (start : ∀ i forced s, P s → startChoice s = some (i, forced) → P (startBatch i forced s))
    (take : ∀ i e s, P s → s.drain.current = some i → oldestEntry i s = some e → P (takeEntry i e s))
    (complete : ∀ i s, P s → s.drain.current = some i → oldestEntry i s = none → P (completeBatch i s)) {s : State}
    (h : P s) : P (engineTest s) := by
  suffices run : ∀ n s, P s → P (engineRun n s) from run 8 s h
  intro n
  induction n with
  | zero => exact fun _ hs => hs
  | succ n ih =>
    intro s hs
    unfold engineRun
    split
    · exact hs
    · rename_i i forced hc
      dsimp only
      have hb := start i forced s hs hc
      have hcur := startBatch_current i forced s
      split
      · rename_i e he
        exact take i e _ hb hcur he
      · rename_i he
        exact ih _ (complete i _ hb hcur he)

theorem batchesWf_startBatch {s : State} {i : SlotIx} {forced : Bool} (h : batchesWf s)
    (hc : startChoice s = some (i, forced)) : batchesWf (startBatch i forced s) := by
  obtain ⟨hidle, hi⟩ := startChoice_some hc
  rw [batchesWf_iff, startBatch_current]
  rw [batchesWf_iff, hidle] at h
  exact slotsWf_startBatch h hi forced

theorem batchesWf_takeEntry {s : State} (h : batchesWf s) (i : SlotIx) (e : Entry) : batchesWf (takeEntry i e s) := by
  rw [batchesWf_iff, takeEntry_current]
  exact slotsWf_congr ((batchesWf_iff s).mp h) (takeEntry_part i e s) (takeEntry_slotState i e · s)

theorem batchesWf_completeBatch {s : State} {i : SlotIx} (h : batchesWf s) (hi : s.drain.current = some i) :
    batchesWf (completeBatch i s) := by
  rw [batchesWf_iff, completeBatch_current]
  rw [batchesWf_iff, hi] at h
  exact slotsWf_completeBatch h

theorem batchesWf_engineTest {s : State} (h : batchesWf s) : batchesWf (engineTest s) :=
  engineTest_keeps_current (fun _ _ _ => batchesWf_startBatch) (fun i e _ h _ _ => batchesWf_takeEntry h i e)
    (fun _ _ h hi _ => batchesWf_completeBatch h hi) h

theorem batchesWf_nextEntry {s : State} {i : SlotIx} (h : batchesWf s) (hi : s.drain.current = some i) :
    batchesWf (nextEntry i s) := by
  unfold nextEntry
  split
  · exact batchesWf_takeEntry h i _
  · exact batchesWf_engineTest (batchesWf_completeBatch h hi)

/-! ### The other operations -/

/-- Only the part state, the slot states and the current slot matter to the three rules. -/
theorem batchesWf_congr {s t : State} (h : batchesWf s) (hp : t.part = s.part)
    (hs : ∀ i, slotState i t = slotState i s) (hc : t.drain.current = s.drain.current) : batchesWf t := by
  rw [batchesWf_iff] at h ⊢
  rw [hc]
  exact slotsWf_congr h hp hs

theorem batchesWf_of_batchView {s t : State} (h : batchesWf s) (hv : batchView t = batchView s) : batchesWf t := by
  obtain ⟨hp, hb, hd⟩ := batchView_fields hv
  exact batchesWf_congr h hp (slotState_congr hb) (by rw [hd])

theorem batchesWf_modSlot {g : Slot → Slot} (hg : ∀ b, (g b).state = b.state) (i : SlotIx) {s : State}
    (h : batchesWf s) : batchesWf (modSlot i g s) :=
  batchesWf_congr h rfl (slotState_modSlot_of_state hg i · s) rfl

theorem batchesWf_countDrained {s : State} (h : batchesWf s) (i : SlotIx) : batchesWf (countDrained i s) :=
  batchesWf_modSlot (g := fun b => { b with entriesDrained := b.entriesDrained + 1 }) (fun _ => rfl) i h

theorem batchesWf_drainError {s : State} (h : batchesWf s) (i : SlotIx) : batchesWf (drainError i s) :=
  batchesWf_modSlot (g := fun b => { b with memErr := true, memErrors := satInc Config.byteLimit b.memErrors })
    (fun _ => rfl) i h

theorem batchesWf_extendHorizonTo {s : State} (h : batchesWf s) (o : Option SlotIx) : batchesWf (extendHorizonTo o s) :=
  batchesWf_congr h (extendHorizonTo_part o s) (extendHorizonTo_slotState o · s) (extendHorizonTo_current o s)

theorem batchesWf_closeAndOpen {s : State} (h : batchesWf s) (r : CloseReason) : batchesWf (closeAndOpen r s) := by
  rw [batchesWf_iff, closeAndOpen_current]
  exact slotsWf_closeAndOpen ((batchesWf_iff s).mp h) r

theorem batchesWf_closeAndForce {s : State} (h : batchesWf s) (r : CloseReason) : batchesWf (closeAndForce r s) := by
  rw [batchesWf_iff, closeAndForce_current]
  exact slotsWf_closeAndForce ((batchesWf_iff s).mp h) r

/-- A release changes HELD to CLOSED alone, so no OPEN, DRAINING or FREE slot. -/
theorem slotsWf_released {c : Option SlotIx} {s t : State} (h : slotsWf c s) (hp : t.part = s.part)
    (hs : ∀ i (v : SlotState), v ≠ .closed → v ≠ .held → (slotState i t = v ↔ slotState i s = v)) : slotsWf c t := by
  obtain ⟨hone, hdrain, hfree⟩ := h
  obtain ⟨o, ho, hpart⟩ := (oneOpen_iff s).mp hone
  refine ⟨(oneOpen_iff t).mpr ⟨o, fun i => ?_, by rw [hp]; exact hpart⟩, fun i => ?_, fun hpass i => ?_⟩
  · exact (hs i .opened (by decide) (by decide)).trans (ho i)
  · exact (hs i .draining (by decide) (by decide)).trans (hdrain i)
  · exact (hs i .free (by decide) (by decide)).mpr (hfree (hp ▸ hpass) i)

theorem batchesWf_releaseAll {s : State} (h : batchesWf s) : batchesWf (releaseAll s) := by
  refine (batchesWf_iff _).mpr (slotsWf_released ((batchesWf_iff s).mp h) rfl fun i v hv hv' => ?_)
  rw [slotState, slotOf_releaseAll]
  exact letGo_state _ hv hv'

theorem batchesWf_releaseOldest {s : State} (h : batchesWf s) : batchesWf (releaseOldest s) := by
  unfold releaseOldest
  split
  · rename_i k _
    refine (batchesWf_iff _).mpr (slotsWf_released ((batchesWf_iff s).mp h) rfl fun i v hv hv' => ?_)
    rw [slotState_modSlot]
    split
    · rename_i hik
      rw [hik]
      exact letGo_state _ hv hv'
    · exact Iff.rfl
  · exact h

theorem extendDrainSet_batch (s : State) : (extendDrainSet s).part = s.part ∧ (extendDrainSet s).batch = s.batch
    ∧ (extendDrainSet s).drain.current = s.drain.current := by
  unfold extendDrainSet
  split <;> exact ⟨rfl, rfl, rfl⟩

theorem batchesWf_raiseBlankStart {s : State} (h : batchesWf s) : batchesWf (raiseBlankStart s) := by
  refine batchesWf_engineTest ?_
  obtain ⟨hp, hb, hc⟩ := extendDrainSet_batch (modCounters Counters.addFrame
    { s with sync.blanking := some true, sync.frameCounter := s.sync.frameCounter + 1 })
  exact batchesWf_congr h hp (slotState_congr hb) hc

theorem batchesWf_forceForPlace {s : State} (h : batchesWf s) : batchesWf (forceForPlace s) := by
  have howed : batchesWf { s with stall.forceCloseOwed := true } := h
  unfold forceForPlace
  split
  · exact batchesWf_extendHorizonTo h (some _)
  · dsimp only
    split
    · exact batchesWf_closeAndForce (batchesWf_extendHorizonTo howed _) .force
    · exact batchesWf_extendHorizonTo howed _

theorem batchesWf_expireStall {s : State} (h : batchesWf s) : batchesWf (expireStall s) := by
  have hexpired : batchesWf (modCounters Counters.addExpiry (raise .expiry { s with stall.expired := true })) := h
  refine batchesWf_engineTest ?_
  dsimp only
  cases hc : (modCounters Counters.addExpiry (raise .expiry { s with stall.expired := true })).stall.cause with
  | place => exact batchesWf_forceForPlace hexpired
  | slot => exact batchesWf_extendHorizonTo hexpired _
  | pass => exact batchesWf_extendHorizonTo hexpired _

theorem batchesWf_otherMarkEffect {s : State} (h : batchesWf s) (w : WriteJob) : batchesWf (otherMarkEffect w s) := by
  unfold otherMarkEffect
  split
  · split
    · exact batchesWf_engineTest (batchesWf_releaseOldest h)
    · exact h
  · exact batchesWf_of_batchView h (batchView_snoopConsumer _ s)
  · exact h
  · exact h

theorem batchesWf_acceptEngaged {s : State} (h : batchesWf s) (w : WriteJob) : batchesWf (acceptEngaged w s) := by
  unfold acceptEngaged
  split
  · split
    · exact batchesWf_of_batchView h (by simp)
    · exact batchesWf_of_batchView h (by simp)
  · split
    · unfold acceptClose
      split
      · exact batchesWf_of_batchView (batchesWf_engineTest (batchesWf_closeAndOpen h _)) (batchView_stepDestination w _)
      · exact batchesWf_of_batchView h (by simp)
    · exact batchesWf_of_batchView (batchesWf_otherMarkEffect h w) (batchView_stepDestination w _)

theorem batchesWf_acceptQuiescing {s : State} (h : batchesWf s) (w : WriteJob) (d : Bool) :
    batchesWf (acceptQuiescing w d s) := by
  unfold acceptQuiescing
  split
  · exact batchesWf_of_batchView h (by simp)
  · exact batchesWf_of_batchView (batchesWf_otherMarkEffect h w) (batchView_stepDestination w _)

theorem batchesWf_acceptWrite {s : State} (h : batchesWf s) (word : WordAddr) (lanes : LaneMask) (data : Word) :
    batchesWf (acceptWrite word lanes data s) := by
  unfold acceptWrite
  split
  · exact batchesWf_of_batchView (batchesWf_otherMarkEffect h _) (batchView_stepMemory _ _)
  · exact batchesWf_acceptEngaged h _
  · exact batchesWf_acceptQuiescing h _ _

/-- A grant changes no slot state: a drain write counts and may mark its batch (R107, R109). -/
theorem tornTest_batch (i : SlotIx) (s : State) :
    (tornTest i s).part = s.part ∧ (∀ k, slotState k (tornTest i s) = slotState k s)
      ∧ (tornTest i s).drain.current = s.drain.current := by
  unfold tornTest
  split
  · exact ⟨rfl, fun k => slotState_modSlot_of_state (g := fun b : Slot => { b with torn := true }) (fun _ => rfl) i k s, rfl⟩
  · exact ⟨rfl, fun _ => rfl, rfl⟩

theorem batchesWf_grantDrain {s : State} (h : batchesWf s) : batchesWf (grantDrain s) := by
  unfold grantDrain
  split
  · rename_i i e _ _
    split
    · have hcount : batchesWf (countDrained i { s with drain.access := .writeInFlight }) :=
        batchesWf_countDrained (s := { s with drain.access := .writeInFlight }) h i
      obtain ⟨hp, hs, hc⟩ := tornTest_batch i (countDrained i { s with drain.access := .writeInFlight })
      have htorn := batchesWf_congr hcount hp hs hc
      exact batchesWf_of_batchView htorn (t := grantDrainWrite i e s) (batchView_placeFreed _)
    · exact h
  · exact h

theorem grantRecord_batchView (s : State) : batchView (grantRecord s) = batchView s := by
  unfold grantRecord
  split
  · dsimp only
    split <;> rfl
  · rfl
  · rfl

theorem grantSystem_batchView (s : State) : batchView (grantSystem s) = batchView s := by
  unfold grantSystem
  split
  · rfl
  · rfl
  · split <;> rfl

theorem batchesWf_grantTo {s : State} (h : batchesWf s) (r : Requester) : batchesWf (grantTo r s) := by
  rcases grantTo_cases r s with heq | ⟨q, ⟨-, -, heq⟩ | ⟨-, -, heq⟩ | ⟨-, -, heq⟩ | ⟨-, -, heq⟩⟩
  · rw [heq]; exact h
  · rw [heq]; exact h
  · rw [heq]; exact batchesWf_of_batchView h (grantRecord_batchView _)
  · rw [heq]; exact batchesWf_grantDrain h
  · rw [heq]; exact batchesWf_of_batchView h (grantSystem_batchView _)

theorem batchesWf_takeResponse {s : State} (h : batchesWf s) (f : InFlight) (failed : Bool) :
    batchesWf (takeResponse f failed s) := batchesWf_of_batchView h (batchView_takeResponse f failed s)

theorem takeResponse_current (f : InFlight) (failed : Bool) (s : State) :
    (takeResponse f failed s).drain.current = s.drain.current := by
  obtain ⟨-, -, hd⟩ := batchView_fields (batchView_takeResponse f failed s)
  rw [hd]

theorem batchesWf_afterDrainRead {s : State} {i : SlotIx} (h : batchesWf s) (hi : s.drain.current = some i) (e : Entry)
    (reply : ReadReply) : batchesWf (afterDrainRead i e reply s) := by
  cases reply with
  | ok d => exact h
  | error =>
    have hcounted : batchesWf (countDrained i (drainError i s)) :=
      batchesWf_countDrained (batchesWf_drainError h i) i
    have hview := batchView_placeFreed (removeEntry e.word i (countDrained i (drainError i s)))
    obtain ⟨-, -, hd⟩ := batchView_fields hview
    exact batchesWf_nextEntry (batchesWf_of_batchView hcounted hview) (by rw [hd]; exact hi)

theorem batchesWf_afterDrainWrite {s : State} {i : SlotIx} (h : batchesWf s) (hi : s.drain.current = some i)
    (reply : WriteReply) : batchesWf (afterDrainWrite i reply s) := by
  cases reply with
  | ok => exact batchesWf_nextEntry h hi
  | error => exact batchesWf_nextEntry (batchesWf_drainError h i) hi

theorem afterRecordWrite_batchView (s : State) : batchView (afterRecordWrite s) = batchView s := by
  unfold afterRecordWrite
  split
  · split
    · rfl
    · rw [batchView_testWriter]; rfl
  · rfl
  · rfl

theorem batchesWf_cleared {s : State} (hp : s.part = .pass) (hb : s.batch = BatchQueue.reset)
    (hd : s.drain = DrainEngine.reset) : batchesWf s := by
  have hfree : ∀ i, slotState i s = .free := by
    intro i
    rw [slotState, slotOf, hb]
    revert i
    decide
  rw [batchesWf_iff, hd]
  refine ⟨(oneOpen_iff s).mpr ⟨none, fun i => ?_, by simp [hp]⟩, fun i => ?_, fun _ => hfree⟩
  · rw [hfree i]; simp
  · rw [hfree i]; simp [DrainEngine.reset]

/-! ### The commands -/

theorem batchesWf_cmdEngage {s : State} (h : batchesWf s) : batchesWf (cmdEngage s).next := by
  unfold cmdEngage
  split
  · exact h
  · rename_i hpass
    have hpass := not_not.mp hpass
    split
    · exact h
    · split
      · exact h
      · obtain ⟨-, hdrain, hfree⟩ := (batchesWf_iff s).mp h
        have hstate (k : SlotIx) : slotState k (openBatch 0 { s with part := .engaged }) = if k = 0 then .opened else .free :=
          (slotState_openBatch 0 k { s with part := .engaged }).trans (by rw [← hfree hpass k]; rfl)
        refine (batchesWf_iff (openBatch 0 { s with part := .engaged })).mpr
          ⟨(oneOpen_iff _).mpr ⟨some 0, fun k => ?_, by simp⟩, fun k => ?_, fun hp => by cases hp⟩
        · rw [hstate, Option.some.injEq, eq_comm (a := (0 : SlotIx))]
          split <;> simp_all
        · rw [hstate]
          refine Iff.trans ?_ (hdrain k)
          rw [hfree hpass k]
          split <;> simp

/-- DISENGAGE closes the OPEN slot and leaves no other (R82). -/
theorem batchesWf_disengageBatches {s : State} (h : batchesWf s) (hp : s.part = .engaged) :
    batchesWf (disengageBatches { s with part := .quiescing, batch.pendingClose := false }) := by
  obtain ⟨hone, hdrain, -⟩ := (batchesWf_iff s).mp h
  obtain ⟨o, ho, hpart⟩ := (oneOpen_iff s).mp hone
  obtain ⟨i, rfl⟩ := Option.isSome_iff_exists.mp (hpart.mp hp)
  have hopen : openSlot s = some i := by
    cases hcase : openSlot s with
    | none => exact absurd ((ho i).mpr rfl) (openSlot_none.mp hcase i)
    | some j => exact ((ho j).mp (openSlot_some hcase)).symm
  have hopen' : openSlot { s with part := .quiescing, batch.pendingClose := false } = some i := hopen
  have hclosed : batchesWf (closeSlot .command i { s with part := .quiescing, batch.pendingClose := false }) := by
    have hstate (k : SlotIx) : slotState k (closeSlot .command i { s with part := .quiescing, batch.pendingClose := false })
        = if k = i then .closed else slotState k s := slotState_modSlot i k _ _
    refine (batchesWf_iff _).mpr ⟨(oneOpen_iff _).mpr ⟨none, fun k => ?_, by simp⟩, fun k => ?_, fun hp => by cases hp⟩
    · rw [hstate]
      split
      · simp
      · rename_i hk
        rw [ho k]
        simp [Ne.symm hk]
    · rw [hstate]
      refine Iff.trans ?_ (hdrain k)
      split
      · rename_i hk
        rw [hk, (ho i).mpr rfl]
        decide
      · exact Iff.rfl
  unfold disengageBatches
  rw [hopen']
  exact batchesWf_releaseAll hclosed

theorem batchesWf_stallToPass {s : State} (h : batchesWf s) : batchesWf (stallToPass s) := by
  have hcause : batchesWf { s with stall.cause := .pass, stall.forceCloseOwed := false } := h
  unfold stallToPass
  dsimp only
  split
  · exact batchesWf_extendHorizonTo hcause _
  · exact h

theorem batchesWf_disengageWrite {s : State} (h : batchesWf s) : batchesWf (disengageWrite s) := by
  unfold disengageWrite
  split
  · split
    · exact batchesWf_stallToPass h
    · exact batchesWf_stallToPass h
    · exact batchesWf_of_batchView h (batchView_stepMemory _ _)
    all_goals exact h
  · exact h
  · exact h

theorem batchesWf_cmdDisengage {s : State} (h : batchesWf s) : batchesWf (cmdDisengage s).next := by
  unfold cmdDisengage
  split
  · exact h
  · rename_i hp
    have hclosed := batchesWf_disengageBatches h (not_not.mp hp)
    exact batchesWf_engineTest (batchesWf_disengageWrite hclosed)

theorem batchesWf_cmdDiscard {s : State} (h : batchesWf s) : batchesWf (cmdDiscard s).next := by
  unfold cmdDiscard
  split
  · exact h
  · refine batchesWf_of_batchView h (t := discardOpen s) (s := s) ?_
    unfold discardOpen
    split
    · rfl
    · split <;> simp

theorem batchesWf_flushEngaged {s : State} (h : batchesWf s) : batchesWf (flushEngaged s) := by
  unfold flushEngaged
  dsimp only
  split
  · exact batchesWf_extendHorizonTo (batchesWf_releaseAll (batchesWf_closeAndForce h _)) _
  · exact batchesWf_extendHorizonTo (s := { releaseAll s with batch.pendingClose := true }) (batchesWf_releaseAll h) _

theorem batchesWf_cmdFlush {s : State} (h : batchesWf s) : batchesWf (cmdFlush s).next := by
  unfold cmdFlush
  split
  · exact h
  · exact batchesWf_engineTest (batchesWf_flushEngaged h)
  · exact batchesWf_engineTest (batchesWf_extendHorizonTo h _)

/-- A command other than ENGAGE, DISENGAGE, DISCARD and FLUSH touches no batch. -/
theorem runCommand_batchView {c : SetupCommand} (he : c ≠ .engage) (hd : c ≠ .disengage) (hx : c ≠ .discard)
    (hf : c ≠ .flush) (s : State) : batchView (runCommand c s).next = batchView s := by
  cases c with
  | engage => exact absurd rfl he
  | disengage => exact absurd rfl hd
  | discard => exact absurd rfl hx
  | flush => exact absurd rfl hf
  | winWrite p => dsimp only [runCommand, cmdWinWrite]; (repeat' split) <;> rfl
  | winRead i => dsimp only [runCommand, cmdWinRead]; (repeat' split) <;> rfl
  | winEnable i => dsimp only [runCommand, cmdWinEnable]; (repeat' split) <;> rfl
  | winDisable i => dsimp only [runCommand, cmdWinDisable]; (repeat' split) <;> rfl
  | marks c r k => dsimp only [runCommand, cmdMarks]; (repeat' split) <;> rfl
  | ring b z => dsimp only [runCommand, cmdRing]; (repeat' split) <;> rfl
  | sync v => dsimp only [runCommand, cmdSync]; (repeat' split) <;> rfl
  | arbitration v => dsimp only [runCommand, cmdArbitration]; (repeat' split) <;> rfl
  | tick v => dsimp only [runCommand, cmdTick]; (repeat' split) <;> rfl
  | counters o => dsimp only [runCommand, cmdCounters]; (repeat' split) <;> rfl
  | _ => rfl

theorem batchesWf_runCommand {s : State} (h : batchesWf s) (c : SetupCommand) : batchesWf (runCommand c s).next := by
  by_cases hbatch : c = .engage ∨ c = .disengage ∨ c = .discard ∨ c = .flush
  · rcases hbatch with rfl | rfl | rfl | rfl
    · exact batchesWf_cmdEngage h
    · exact batchesWf_cmdDisengage h
    · exact batchesWf_cmdDiscard h
    · exact batchesWf_cmdFlush h
  · simp only [not_or] at hbatch
    obtain ⟨he, hd, hx, hf⟩ := hbatch
    exact batchesWf_of_batchView h (runCommand_batchView he hd hx hf s)

theorem softReset_batchView (s : State) : batchView (softReset s) = batchView (clearRuntime s.cfg s) := by
  unfold softReset
  dsimp only
  split
  · exact batchView_snoopConsumer _ _
  · rfl

theorem batchesWf_effect {c : Instr} {s t : State} (h : batchesWf s) (he : Effect c s t) : batchesWf t := by
  cases he with
  | ran hcmd => exact batchesWf_runCommand h _
  | softReset p hp => exact batchesWf_of_batchView (batchesWf_cleared rfl rfl rfl) (softReset_batchView _)
  | pinReset p => exact batchesWf_cleared rfl rfl rfl
  | tick =>
    refine batchesWf_congr h (s := s) rfl (fun _ => rfl) ?_
    show s.drain.tick.current = s.drain.current
    unfold DrainEngine.tick
    split <;> rfl
  | expiry hd => exact batchesWf_expireStall h
  | blankStart hc high => exact batchesWf_raiseBlankStart (s := { s with blank := _ }) h
  | writeTaken word data hs hl => exact batchesWf_acceptWrite (s := { s with sysAnswer := none }) h _ _ _
  | granted hf hr => exact batchesWf_grantTo h _
  | systemReadAnswered hf hs reply => exact batchesWf_takeResponse h _ _
  | destinationReadAnswered hf hs reply =>
    exact batchesWf_of_batchView (batchesWf_takeResponse h _ _) (batchView_afterDestinationRead _ _ _)
  | immediateWriteAnswered hf hs reply => exact batchesWf_takeResponse h _ _
  | refreshReadAnswered hf reply => exact batchesWf_takeResponse h _ _
  | discarded failed hc hf => exact batchesWf_takeResponse h _ _
  | drainReadAnswered hf hi he reply =>
    exact batchesWf_afterDrainRead (batchesWf_takeResponse h _ _) ((takeResponse_current _ _ s).trans hi) _ reply
  | drainWriteAnswered hf hi reply =>
    exact batchesWf_afterDrainWrite (batchesWf_takeResponse h _ _) ((takeResponse_current _ _ s).trans hi) reply
  | recordWriteAnswered hf reply =>
    exact batchesWf_of_batchView (batchesWf_takeResponse h _ _) (afterRecordWrite_batchView _)
  | _ => exact h

/-- Settles O6: a close opens another slot in the same step, a start and a completion move the DRAINING slot with the
engine, and the part enters PASS with every slot FREE. -/
theorem stepKeepsBatches : Obligations.StepKeepsBatches := by
  intro s t hs h
  exact step_keeps (P := batchesWf) (fun _ _ hs => hs) (fun _ _ _ => batchesWf_effect) hs h

end Sys2Proof.Machine
end

section
/-! PROOFS. The places of the hold buffer (3.1, 3.3): which operations leave the buffer and the system port as they are, and
that no commit takes a place that is not free or reserved. -/

namespace Sys2Proof.Machine

/-! ### What leaves the hold buffer and the system port -/

/-- The hold buffer and the system request in progress. -/
structure BusView where
  buf : HoldBuffer
  sys : SysPort

/-- Those of a state. -/
def busView (s : State) : BusView := { buf := s.buf, sys := s.sys }

theorem busView_fields {s t : State} (h : busView s = busView t) : s.buf = t.buf ∧ s.sys = t.sys := by
  simp only [busView, BusView.mk.injEq] at h
  exact h

@[simp] theorem busView_raise (e : Event) (s : State) : busView (raise e s) = busView s := rfl
@[simp] theorem busView_modCounters (g : Counters → Counters) (s : State) : busView (modCounters g s) = busView s := rfl
@[simp] theorem busView_modSlot (i : SlotIx) (g : Slot → Slot) (s : State) : busView (modSlot i g s) = busView s := rfl
@[simp] theorem busView_openBatch (i : SlotIx) (s : State) : busView (openBatch i s) = busView s := rfl
@[simp] theorem busView_closeSlot (r : CloseReason) (i : SlotIx) (s : State) : busView (closeSlot r i s) = busView s := rfl
@[simp] theorem busView_releaseAll (s : State) : busView (releaseAll s) = busView s := rfl
@[simp] theorem busView_engineIdle (q : Half) (s : State) : busView (engineIdle q s) = busView s := rfl
@[simp] theorem busView_endStall (s : State) : busView (endStall s) = busView s := rfl
@[simp] theorem busView_beginStall (c : StallCause) (s : State) : busView (beginStall c s) = busView s := rfl
@[simp] theorem busView_drainError (i : SlotIx) (s : State) : busView (drainError i s) = busView s := rfl
@[simp] theorem busView_countDrained (i : SlotIx) (s : State) : busView (countDrained i s) = busView s := rfl
@[simp] theorem busView_putInFlight (q : MemRequest) (s : State) : busView (putInFlight q s) = busView s := rfl

@[simp] theorem busView_reportError (f : InFlight) (s : State) : busView (reportError f s) = busView s := by
  unfold reportError
  split
  · rfl
  · dsimp only
    split <;> rfl

@[simp] theorem busView_takeResponse (f : InFlight) (failed : Bool) (s : State) :
    busView (takeResponse f failed s) = busView s := by
  unfold takeResponse
  dsimp only
  split
  · exact (busView_reportError f { s with inFlight := none }).trans rfl
  · rfl

@[simp] theorem busView_testWriter (s : State) : busView (testWriter s) = busView s := by
  unfold testWriter
  split <;> rfl

@[simp] theorem busView_pushRecord (r : Rec) (s : State) : busView (pushRecord r s) = busView s := by
  unfold pushRecord
  split
  · rw [busView_testWriter]; rfl
  · rfl

@[simp] theorem busView_snoopConsumer (n : Half) (s : State) : busView (snoopConsumer n s) = busView s := by
  unfold snoopConsumer
  split
  · rw [busView_testWriter]; rfl
  · rfl

@[simp] theorem busView_releaseOldest (s : State) : busView (releaseOldest s) = busView s := by
  unfold releaseOldest
  split <;> rfl

@[simp] theorem busView_extendDrainSet (s : State) : busView (extendDrainSet s) = busView s := by
  unfold extendDrainSet
  split <;> rfl

@[simp] theorem busView_extendHorizon (q : Half) (s : State) : busView (extendHorizon q s) = busView s := by
  unfold extendHorizon
  split <;> rfl

@[simp] theorem busView_extendHorizonTo (i : Option SlotIx) (s : State) : busView (extendHorizonTo i s) = busView s := by
  unfold extendHorizonTo
  split
  · exact busView_extendHorizon _ s
  · rfl

@[simp] theorem busView_closeAndOpen (r : CloseReason) (s : State) : busView (closeAndOpen r s) = busView s := by
  rcases closeAndOpen_cases r s with h | ⟨i, j, -, -, h⟩
  · rw [h]
  · rw [h]; rfl

@[simp] theorem busView_closeAndForce (r : CloseReason) (s : State) : busView (closeAndForce r s) = busView s := by
  rcases closeAndForce_cases r s with h | ⟨i, j, -, -, h⟩
  · rw [h]
  · rw [h]; exact (busView_extendHorizon _ (openBatch j (closeSlot r i s))).trans rfl

@[simp] theorem busView_startBatch (i : SlotIx) (forced : Bool) (s : State) :
    busView (startBatch i forced s) = busView s := by
  cases forced <;> rfl

@[simp] theorem busView_takeEntry (i : SlotIx) (e : Entry) (s : State) : busView (takeEntry i e s) = busView s := by
  unfold takeEntry
  split <;> rfl

@[simp] theorem busView_freedState (i : SlotIx) (s : State) : busView (freedState i s) = busView s := by
  simp [freedState]

@[simp] theorem busView_tornTest (i : SlotIx) (s : State) : busView (tornTest i s) = busView s := by
  unfold tornTest
  split <;> rfl

@[simp] theorem busView_forceForPlace (s : State) : busView (forceForPlace s) = busView s := by
  have howed : busView (extendHorizonTo (youngestNonOpen s) { s with stall.forceCloseOwed := true }) = busView s :=
    (busView_extendHorizonTo _ _).trans rfl
  unfold forceForPlace
  split
  · exact busView_extendHorizon _ s
  · dsimp only
    split
    · exact (busView_closeAndForce _ _).trans howed
    · exact howed

@[simp] theorem busView_forceFor (c : StallCause) (s : State) : busView (forceFor c s) = busView s := by
  cases c with
  | place => exact busView_forceForPlace s
  | slot => exact busView_extendHorizonTo _ s
  | pass => exact busView_extendHorizonTo _ s

@[simp] theorem busView_stallToPass (s : State) : busView (stallToPass s) = busView s := by
  unfold stallToPass
  dsimp only
  split
  · exact (busView_extendHorizonTo _ _).trans rfl
  · rfl

@[simp] theorem busView_disengageBatches (s : State) : busView (disengageBatches s) = busView s := by
  unfold disengageBatches
  split <;> simp

@[simp] theorem busView_flushEngaged (s : State) : busView (flushEngaged s) = busView s := by
  unfold flushEngaged
  dsimp only
  split
  · simp
  · exact (busView_extendHorizonTo _ _).trans rfl

@[simp] theorem busView_grantRecord (s : State) : busView (grantRecord s) = busView s := by
  unfold grantRecord
  split
  · dsimp only
    split <;> rfl
  · rfl
  · rfl

@[simp] theorem busView_afterRecordWrite (s : State) : busView (afterRecordWrite s) = busView s := by
  unfold afterRecordWrite
  split
  · split
    · rfl
    · rw [busView_testWriter]; rfl
  · rfl
  · rfl

/-- A write completed as plain leaves the buffer and waits for its memory write. -/
theorem busView_completePlain (w : WriteJob) (s : State) :
    busView (completePlain w s) = busView (setWrite { w.asPlain with phase := .writeRequested } s) := by
  unfold completePlain
  dsimp only
  split
  · exact busView_snoopConsumer _ _
  · rfl

/-- A command other than DISENGAGE, DISCARD and FLUSH reaches neither, but for the mark that COUNTERS sets. -/
theorem runCommand_busView {c : SetupCommand} (hd : c ≠ .disengage) (hx : c ≠ .discard) (hf : c ≠ .flush)
    (hc : ∀ o, c ≠ .counters o) (s : State) : busView (runCommand c s).next = busView s := by
  cases c with
  | disengage => exact absurd rfl hd
  | discard => exact absurd rfl hx
  | flush => exact absurd rfl hf
  | counters o => exact absurd rfl (hc o)
  | winWrite p => dsimp only [runCommand, cmdWinWrite]; (repeat' split) <;> rfl
  | winRead i => dsimp only [runCommand, cmdWinRead]; (repeat' split) <;> rfl
  | winEnable i => dsimp only [runCommand, cmdWinEnable]; (repeat' split) <;> rfl
  | winDisable i => dsimp only [runCommand, cmdWinDisable]; (repeat' split) <;> rfl
  | marks c r k => dsimp only [runCommand, cmdMarks]; (repeat' split) <;> rfl
  | ring b z => dsimp only [runCommand, cmdRing]; (repeat' split) <;> rfl
  | sync v => dsimp only [runCommand, cmdSync]; (repeat' split) <;> rfl
  | arbitration v => dsimp only [runCommand, cmdArbitration]; (repeat' split) <;> rfl
  | tick v => dsimp only [runCommand, cmdTick]; (repeat' split) <;> rfl
  | engage => dsimp only [runCommand, cmdEngage]; (repeat' split) <;> rfl
  | _ => rfl

/-! ### Places -/

/-- The high-water mark stands between the occupancy and the capacity (R32, R55). -/
def markWf (s : State) : Prop := occupancy s ≤ s.buf.highWater ∧ s.buf.highWater ≤ Config.holdCapacity

/-- A place that a write has reserved is still free (R39). -/
def roomFor (w : WriteJob) (s : State) : Prop := w.reserved = true → occupancy s < Config.holdCapacity

/-- The capacity holds when the mark does and the reserved place, if there is one, is free. -/
theorem capacityWf_iff (s : State) :
    capacityWf s ↔ markWf s ∧ (reservationHeld s = true → occupancy s < Config.holdCapacity) := by
  unfold capacityWf markWf placesUsed
  constructor
  · rintro ⟨hused, hlow, hhigh⟩
    refine ⟨⟨hlow, hhigh⟩, fun hr => ?_⟩
    rw [if_pos hr] at hused
    exact hused
  · rintro ⟨⟨hlow, hhigh⟩, hr⟩
    refine ⟨?_, hlow, hhigh⟩
    split
    · rename_i h
      exact hr h
    · exact hlow.trans hhigh

/-- Only the buffer and the system port matter. -/
theorem capacityWf_congr {s t : State} (h : capacityWf s) (hv : busView t = busView s) : capacityWf t := by
  obtain ⟨hbuf, hsys⟩ := busView_fields hv
  simp only [capacityWf, placesUsed, occupancy, reservationHeld, hbuf, hsys] at h ⊢
  exact h

theorem markWf_of_capacityWf {s : State} (h : capacityWf s) : markWf s := ((capacityWf_iff s).mp h).1

/-- The write in progress has room for the place it has reserved. -/
theorem roomFor_of_capacityWf {s : State} {w : WriteJob} (h : capacityWf s) (hw : s.sys = .write w) : roomFor w s := by
  intro hr
  exact ((capacityWf_iff s).mp h).2 (by simp only [reservationHeld, hw, hr])

theorem capacityWf_setWrite {s : State} {w : WriteJob} (hm : markWf s) (hr : roomFor w s) : capacityWf (setWrite w s) :=
  (capacityWf_iff _).mpr ⟨hm, hr⟩

theorem capacityWf_answerSystem {s : State} (hm : markWf s) (a : Answer) : capacityWf (answerSystem a s) :=
  (capacityWf_iff _).mpr ⟨hm, fun hr => by cases hr⟩

theorem capacityWf_stepMemory {s : State} {w : WriteJob} (hm : markWf s) (hr : roomFor w s) :
    capacityWf (stepMemory w s) := by
  unfold stepMemory
  split
  · exact capacityWf_answerSystem hm _
  · exact capacityWf_setWrite hm hr

theorem capacityWf_completePlain {s : State} (hm : markWf s) (w : WriteJob) : capacityWf (completePlain w s) :=
  capacityWf_congr (capacityWf_setWrite (w := { w.asPlain with phase := .writeRequested }) hm fun hr => by cases hr)
    (busView_completePlain w s)

theorem capacityWf_commitWithoutSlot {s : State} (hm : markWf s) (w : WriteJob) : capacityWf (commitWithoutSlot w s) := by
  unfold commitWithoutSlot
  split
  · exact capacityWf_congr (capacityWf_setWrite hm fun hr => by cases hr) (busView_beginStall _ _)
  · exact capacityWf_completePlain hm w

/-- Composing an entry leaves the number of entries. -/
theorem markWf_composeEntry {s : State} (hm : markWf s) (word : WordAddr) (i : SlotIx) (m : LaneMask) (u : Transform) :
    markWf (composeEntry word i m u s) := by
  unfold markWf occupancy at hm ⊢
  simp only [composeEntry, List.length_map]
  exact hm

/-- A new entry with a place for it lifts the mark to the occupancy at most. -/
theorem markWf_addEntry {s : State} (hm : markWf s) (hroom : occupancy s < Config.holdCapacity) (e : Entry) :
    markWf (addEntry e s) := by
  obtain ⟨-, hhigh⟩ := hm
  unfold occupancy at hroom
  unfold markWf occupancy
  simp only [addEntry_fields, List.length_append, List.length_singleton]
  exact ⟨le_max_right _ _, max_le hhigh hroom⟩

theorem occupancy_lt_of_placeFree {s : State} (h : placeFree s = true) : occupancy s < Config.holdCapacity := by
  have hroom : placesUsed s < Config.holdCapacity := of_decide_eq_true h
  exact (Nat.le_add_right _ _).trans_lt hroom

/-- An entry is made in the place reserved, or in one that is free (R44). -/
theorem capacityWf_commit {s : State} {w : WriteJob} (hm : markWf s) (hr : roomFor w s) : capacityWf (commit w s) := by
  rcases commit_cases w s with ⟨-, h⟩ | ⟨i, -, ⟨e, -, h⟩ | ⟨-, hplace, h⟩ | ⟨-, -, -, h⟩⟩
  · rw [h]; exact capacityWf_commitWithoutSlot hm w
  · rw [h]; exact capacityWf_stepMemory (markWf_composeEntry hm _ _ _ _) fun hr => by cases hr
  · have hroom : occupancy s < Config.holdCapacity := hplace.elim hr occupancy_lt_of_placeFree
    rw [h]; exact capacityWf_stepMemory (markWf_addEntry hm hroom _) fun hr => by cases hr
  · rw [h]; exact capacityWf_congr (capacityWf_setWrite (w := { w with phase := .waitCommitPlace }) hm hr) rfl

theorem capacityWf_stepCommit {s : State} {w : WriteJob} (hm : markWf s) (hr : roomFor w s) :
    capacityWf (stepCommit w s) := by
  unfold stepCommit
  split
  · exact capacityWf_stepMemory hm hr
  · exact capacityWf_commit hm hr

theorem capacityWf_stepDestination {s : State} {w : WriteJob} (hm : markWf s) (hr : roomFor w s) :
    capacityWf (stepDestination w s) := by
  unfold stepDestination
  split
  · exact capacityWf_setWrite hm hr
  · exact capacityWf_stepCommit hm hr

theorem capacityWf_placeFreed {s : State} (h : capacityWf s) : capacityWf (placeFreed s) := by
  have hm := markWf_of_capacityWf h
  rcases placeFreed_cases s with heq | ⟨w, -, hfree, ⟨-, heq⟩ | ⟨-, heq⟩⟩
  · rw [heq]; exact h
  · have hroom := occupancy_lt_of_placeFree hfree
    rw [heq]; exact capacityWf_stepDestination hm fun _ => hroom
  · have hroom := occupancy_lt_of_placeFree hfree
    rw [heq]; exact capacityWf_stepCommit hm fun _ => hroom

/-- Fewer entries take fewer places. -/
theorem capacityWf_filter {s : State} (h : capacityWf s) (p : Entry → Bool) :
    capacityWf { s with buf.entries := s.buf.entries.filter p } := by
  obtain ⟨⟨hlow, hhigh⟩, hr⟩ := (capacityWf_iff s).mp h
  have hfewer : (s.buf.entries.filter p).length ≤ s.buf.entries.length := List.length_filter_le _ _
  exact (capacityWf_iff _).mpr ⟨⟨hfewer.trans hlow, hhigh⟩, fun hres => hfewer.trans_lt (hr hres)⟩

/-! ### Batches -/

theorem capacityWf_enterPass {s : State} (h : capacityWf s) : capacityWf (enterPass s) := by
  have hm := markWf_of_capacityWf h
  unfold enterPass
  dsimp only
  split
  · split
    · have hstart : markWf (endStall (raise .quiesced { s with part := .pass })) := hm
      exact capacityWf_completePlain hstart _
    · exact capacityWf_congr h rfl
  · exact capacityWf_congr h rfl
  · exact capacityWf_congr h rfl

theorem waitingClose_some {s : State} {w : WriteJob} (h : waitingClose s = some w) :
    s.sys = .write w ∧ w.phase = .waitSlot := by
  unfold waitingClose at h
  split at h
  · rename_i v hv
    split at h
    · rename_i hp
      cases h
      exact ⟨hv, hp⟩
    · cases h
  · cases h
  · cases h

theorem capacityWf_slotFreed {s : State} (h : capacityWf s) : capacityWf (slotFreed s) := by
  rcases slotFreed_cases s with heq | ⟨-, -, heq⟩ | ⟨-, ⟨w, hw, heq⟩ | heq | heq⟩
  · rw [heq]; exact h
  · rw [heq]; exact capacityWf_enterPass h
  · obtain ⟨hw, -⟩ := waitingClose_some hw
    have hview : busView (endStall (closeAndOpen (closeReasonOf w.data) s)) = busView s := by simp
    have hclosed := capacityWf_congr h hview
    rw [heq]
    exact capacityWf_stepDestination (markWf_of_capacityWf hclosed)
      (roomFor_of_capacityWf hclosed ((busView_fields hview).2.trans hw))
  · rw [heq]; exact capacityWf_congr h ((busView_closeAndForce _ _).trans rfl)
  · rw [heq]; exact capacityWf_congr h (busView_closeAndForce _ _)

theorem capacityWf_completeBatch {s : State} (h : capacityWf s) (i : SlotIx) : capacityWf (completeBatch i s) := by
  rw [completeBatch_eq]
  exact capacityWf_congr (capacityWf_slotFreed (capacityWf_congr h (busView_freedState i s))) (busView_engineIdle _ _)

theorem capacityWf_engineTest {s : State} (h : capacityWf s) : capacityWf (engineTest s) :=
  engineTest_keeps (P := capacityWf) (fun _ _ _ h _ => capacityWf_congr h (busView_startBatch _ _ _))
    (fun _ _ _ h _ => capacityWf_congr h (busView_takeEntry _ _ _)) (fun i _ h _ => capacityWf_completeBatch h i) h

theorem capacityWf_nextEntry {s : State} (h : capacityWf s) (i : SlotIx) : capacityWf (nextEntry i s) := by
  unfold nextEntry
  split
  · exact capacityWf_congr h (busView_takeEntry _ _ _)
  · exact capacityWf_engineTest (capacityWf_completeBatch h i)

/-! ### The system port -/

theorem capacityWf_otherMarkEffect {s : State} (h : capacityWf s) (w : WriteJob) : capacityWf (otherMarkEffect w s) := by
  unfold otherMarkEffect
  split
  · split
    · exact capacityWf_engineTest (capacityWf_congr h (busView_releaseOldest s))
    · exact h
  · exact capacityWf_congr h (busView_snoopConsumer _ s)
  · exact h
  · exact h

theorem roomFor_of_not_reserved {w : WriteJob} (h : w.reserved = false) (s : State) : roomFor w s := by
  intro hr
  rw [h] at hr
  cases hr

theorem capacityWf_acceptEngaged {s : State} {w : WriteJob} (h : capacityWf s) (hw : w.reserved = false) :
    capacityWf (acceptEngaged w s) := by
  have hm := markWf_of_capacityWf h
  have hno := roomFor_of_not_reserved hw
  unfold acceptEngaged
  split
  · split
    · rename_i hfree
      have hroom := occupancy_lt_of_placeFree hfree
      exact capacityWf_stepDestination hm fun _ => hroom
    · exact capacityWf_congr (capacityWf_setWrite (w := { w with phase := .waitPlace }) hm (hno s)) rfl
  · split
    · unfold acceptClose
      split
      · have hclosed := capacityWf_engineTest (capacityWf_congr h (busView_closeAndOpen (closeReasonOf w.data) s))
        exact capacityWf_stepDestination (markWf_of_capacityWf hclosed) (hno _)
      · exact capacityWf_congr (capacityWf_setWrite (w := { w with phase := .waitSlot }) hm (hno s)) rfl
    · exact capacityWf_stepDestination (markWf_of_capacityWf (capacityWf_otherMarkEffect h w)) (hno _)

theorem capacityWf_acceptQuiescing {s : State} {w : WriteJob} (h : capacityWf s) (hw : w.reserved = false) (d : Bool) :
    capacityWf (acceptQuiescing w d s) := by
  have hno := roomFor_of_not_reserved hw
  unfold acceptQuiescing
  split
  · exact capacityWf_congr (capacityWf_setWrite (w := { w with phase := .waitPass }) (markWf_of_capacityWf h) (hno s)) rfl
  · exact capacityWf_stepDestination (markWf_of_capacityWf (capacityWf_otherMarkEffect h w)) (hno _)

theorem capacityWf_acceptWrite {s : State} (h : capacityWf s) (word : WordAddr) (lanes : LaneMask) (data : Word) :
    capacityWf (acceptWrite word lanes data s) := by
  unfold acceptWrite
  split
  · exact capacityWf_stepMemory (markWf_of_capacityWf (capacityWf_otherMarkEffect h _)) (roomFor_of_not_reserved rfl _)
  · exact capacityWf_acceptEngaged h rfl
  · exact capacityWf_acceptQuiescing h rfl _

theorem capacityWf_afterDestinationRead {s : State} {w : WriteJob} (h : capacityWf s) (hw : s.sys = .write w)
    (reply : ReadReply) : capacityWf (afterDestinationRead w reply s) := by
  have hm := markWf_of_capacityWf h
  have hr := roomFor_of_capacityWf h hw
  unfold afterDestinationRead
  split
  · exact capacityWf_stepMemory (w := { w with readData := none }) hm hr
  · split
    · exact capacityWf_stepCommit (w := { w with readData := some _ }) hm hr
    · exact capacityWf_answerSystem hm _

theorem capacityWf_grantSystem {s : State} (h : capacityWf s) : capacityWf (grantSystem s) := by
  have hm := markWf_of_capacityWf h
  unfold grantSystem
  split
  · exact h
  · exact (capacityWf_iff _).mpr ⟨hm, fun hr => by cases hr⟩
  · rename_i w hw
    have hr := roomFor_of_capacityWf h hw
    split
    · exact capacityWf_setWrite (w := { w with phase := .destInFlight }) hm hr
    · exact capacityWf_setWrite (w := { w with phase := .writeInFlight }) hm hr
    all_goals exact h

theorem capacityWf_grantDrain {s : State} (h : capacityWf s) : capacityWf (grantDrain s) := by
  unfold grantDrain
  split
  · rename_i i e _ _
    split
    · have hview : busView (tornTest i (countDrained i { s with drain.access := .writeInFlight })) = busView s :=
        (busView_tornTest _ _).trans rfl
      exact capacityWf_placeFreed (capacityWf_filter (capacityWf_congr h hview) _)
    · exact capacityWf_congr h rfl
  · exact h

theorem capacityWf_grantTo {s : State} (h : capacityWf s) (r : Requester) : capacityWf (grantTo r s) := by
  have hasked (q : MemRequest) : capacityWf (putInFlight q { s with waits := waitsAfter r s }) := capacityWf_congr h rfl
  rcases grantTo_cases r s with heq | ⟨q, ⟨-, -, heq⟩ | ⟨-, -, heq⟩ | ⟨-, -, heq⟩ | ⟨-, -, heq⟩⟩
  · rw [heq]; exact h
  · rw [heq]; exact capacityWf_congr h rfl
  · rw [heq]; exact capacityWf_congr (hasked q) (busView_grantRecord _)
  · rw [heq]; exact capacityWf_grantDrain (hasked q)
  · rw [heq]; exact capacityWf_grantSystem (hasked q)

theorem capacityWf_takeResponse {s : State} (h : capacityWf s) (f : InFlight) (failed : Bool) :
    capacityWf (takeResponse f failed s) := capacityWf_congr h (busView_takeResponse f failed s)

theorem capacityWf_afterDrainRead {s : State} (h : capacityWf s) (i : SlotIx) (e : Entry) (reply : ReadReply) :
    capacityWf (afterDrainRead i e reply s) := by
  cases reply with
  | ok d => exact capacityWf_congr h rfl
  | error =>
    have hcounted : capacityWf (countDrained i (drainError i s)) := capacityWf_congr h rfl
    exact capacityWf_nextEntry (capacityWf_placeFreed (capacityWf_filter hcounted _)) i

theorem capacityWf_afterDrainWrite {s : State} (h : capacityWf s) (i : SlotIx) (reply : WriteReply) :
    capacityWf (afterDrainWrite i reply s) := by
  cases reply with
  | ok => exact capacityWf_nextEntry h i
  | error => exact capacityWf_nextEntry (capacityWf_congr h (busView_drainError i s)) i

/-! ### The commands -/

theorem capacityWf_disengageWrite {s : State} (h : capacityWf s) : capacityWf (disengageWrite s) := by
  have hm := markWf_of_capacityWf h
  unfold disengageWrite
  split
  · rename_i w hw
    have hr := roomFor_of_capacityWf h hw
    split
    · exact capacityWf_congr (capacityWf_setWrite (w := { w with phase := .waitPass }) hm hr) (busView_stallToPass _)
    · exact capacityWf_congr (capacityWf_setWrite (w := { w with phase := .waitPass, readData := none }) hm hr)
        (busView_stallToPass _)
    · exact capacityWf_stepMemory (s := endStall s) hm hr
    · exact capacityWf_setWrite (w := { w with leftEngaged := true }) hm hr
    · exact capacityWf_setWrite (w := { w with leftEngaged := true }) hm hr
    all_goals exact h
  · exact h
  · exact h

theorem capacityWf_cmdDisengage {s : State} (h : capacityWf s) : capacityWf (cmdDisengage s).next := by
  unfold cmdDisengage
  split
  · exact h
  · have hclosed : capacityWf
        { disengageBatches { s with part := .quiescing, batch.pendingClose := false } with stall.forceCloseOwed := false } :=
      capacityWf_congr h (busView_disengageBatches { s with part := .quiescing, batch.pendingClose := false })
    exact capacityWf_engineTest (capacityWf_disengageWrite hclosed)

theorem capacityWf_cmdDiscard {s : State} (h : capacityWf s) : capacityWf (cmdDiscard s).next := by
  unfold cmdDiscard
  split
  · exact h
  · show capacityWf (discardOpen s)
    unfold discardOpen
    split
    · exact h
    · split
      · exact capacityWf_placeFreed (capacityWf_filter h _)
      · exact h

theorem capacityWf_cmdFlush {s : State} (h : capacityWf s) : capacityWf (cmdFlush s).next := by
  unfold cmdFlush
  split
  · exact h
  · exact capacityWf_engineTest (capacityWf_congr h (busView_flushEngaged s))
  · exact capacityWf_engineTest (capacityWf_congr h (busView_extendHorizonTo _ s))

/-- COUNTERS with the clear option sets the mark to the occupancy (R176, R55). -/
theorem capacityWf_cmdCounters {s : State} (h : capacityWf s) (o : Byte) : capacityWf (cmdCounters o s).next := by
  unfold cmdCounters
  split
  · exact h
  · split
    · obtain ⟨⟨hlow, hhigh⟩, hr⟩ := (capacityWf_iff s).mp h
      exact (capacityWf_iff (clearCounters s)).mpr ⟨⟨le_refl _, hlow.trans hhigh⟩, hr⟩
    · exact h

theorem capacityWf_runCommand {s : State} (h : capacityWf s) (c : SetupCommand) : capacityWf (runCommand c s).next := by
  by_cases hbus : c = .disengage ∨ c = .discard ∨ c = .flush ∨ ∃ o, c = .counters o
  · rcases hbus with rfl | rfl | rfl | ⟨o, rfl⟩
    · exact capacityWf_cmdDisengage h
    · exact capacityWf_cmdDiscard h
    · exact capacityWf_cmdFlush h
    · exact capacityWf_cmdCounters h o
  · simp only [not_or, not_exists] at hbus
    obtain ⟨hd, hx, hf, hc⟩ := hbus
    exact capacityWf_congr h (runCommand_busView hd hx hf hc s)

/-! ### The resets -/

theorem capacityWf_cleared {s : State} (h : s.buf = { entries := [], highWater := 0 }) : capacityWf s := by
  have hnone : occupancy s = 0 := by rw [occupancy, h]; rfl
  refine (capacityWf_iff s).mpr ⟨⟨?_, ?_⟩, fun _ => ?_⟩
  · rw [hnone]; exact Nat.zero_le _
  · rw [h]; exact Nat.zero_le _
  · rw [hnone]; decide

theorem softReset_busView (s : State) : busView (softReset s) = busView (clearRuntime s.cfg s) := by
  unfold softReset
  dsimp only
  split
  · exact busView_snoopConsumer _ _
  · rfl

theorem capacityWf_effect {c : Instr} {s t : State} (h : capacityWf s) (he : Effect c s t) : capacityWf t := by
  have hm := markWf_of_capacityWf h
  cases he with
  | ran hcmd => exact capacityWf_congr (capacityWf_runCommand h _) rfl
  | softReset p hp => exact capacityWf_congr (capacityWf_cleared rfl) (softReset_busView _)
  | pinReset p => exact capacityWf_cleared rfl
  | expiry hd =>
    refine capacityWf_engineTest (capacityWf_congr h ?_)
    exact (busView_forceFor _ _).trans rfl
  | blankStart hc high =>
    refine capacityWf_engineTest (capacityWf_congr h ?_)
    exact (busView_extendDrainSet _).trans rfl
  | systemAnswered hc hs a => exact capacityWf_answerSystem hm a
  | readTaken word lanes hs r => exact (capacityWf_iff _).mpr ⟨hm, fun hr => by cases hr⟩
  | writeTaken word data hs hl =>
    have hanswered : capacityWf { s with sysAnswer := none } := capacityWf_congr h rfl
    exact capacityWf_acceptWrite hanswered _ _ _
  | granted hf hr => exact capacityWf_grantTo h _
  | systemReadAnswered hf hs reply =>
    exact capacityWf_answerSystem (markWf_of_capacityWf (capacityWf_takeResponse h _ _)) _
  | destinationReadAnswered hf hs reply =>
    exact capacityWf_afterDestinationRead (capacityWf_takeResponse h _ _)
      ((busView_fields (busView_takeResponse _ _ s)).2.trans hs) reply
  | immediateWriteAnswered hf hs reply =>
    exact capacityWf_answerSystem (markWf_of_capacityWf (capacityWf_takeResponse h _ _)) _
  | refreshReadAnswered hf reply => exact capacityWf_congr (capacityWf_takeResponse h _ _) rfl
  | discarded failed hc hf => exact capacityWf_takeResponse h _ _
  | drainReadAnswered hf hi he reply => exact capacityWf_afterDrainRead (capacityWf_takeResponse h _ _) _ _ reply
  | drainWriteAnswered hf hi reply => exact capacityWf_afterDrainWrite (capacityWf_takeResponse h _ _) _ reply
  | recordWriteAnswered hf reply =>
    exact capacityWf_congr (capacityWf_takeResponse h _ _) (busView_afterRecordWrite _)
  | _ => exact capacityWf_congr h rfl

/-- Settles O4: an entry is made in a reserved place or a free one alone, and a reservation taken where a place is free. -/
theorem stepKeepsCapacity : Obligations.StepKeepsCapacity := by
  intro s t hs h
  exact step_keeps (P := capacityWf) (fun _ _ hs => hs) (fun _ _ _ => capacityWf_effect) hs h

end Sys2Proof.Machine
end

section
/-! PROOFS. The entries of the hold buffer and their slots (3.1, 5.1): an entry is made in the OPEN slot, a slot in use
stays in use until it has no entry, and the buffer is empty when the part enters PASS. -/

namespace Sys2Proof.Machine

/-! ### Slots that stay in use -/

/-- Every slot in use is still in use. -/
def usedStays (s t : State) : Prop := ∀ i, slotState i s ≠ .free → slotState i t ≠ .free

theorem usedStays_of_eq {s t : State} (h : ∀ i, slotState i t = slotState i s) : usedStays s t := by
  intro i hi
  rw [h i]
  exact hi

theorem usedStays_of_batchView {s t : State} (h : batchView t = batchView s) : usedStays s t := by
  obtain ⟨-, hb, -⟩ := batchView_fields h
  exact usedStays_of_eq (slotState_congr hb)

theorem usedStays_close_open {r : CloseReason} {s : State} {i j : SlotIx} (hi : openSlot s = some i)
    (hj : freeSlot s = some j) : usedStays s (openBatch j (closeSlot r i s)) := by
  obtain ⟨hclosed, hopened, hrest⟩ := slotState_close_open (r := r) (openSlot_some hi) (freeSlot_some hj)
  intro k hk
  rcases eq_or_ne k j with rfl | hkj
  · rw [hopened]; decide
  · rcases eq_or_ne k i with rfl | hki
    · rcases hclosed with h | h <;> rw [h] <;> decide
    · rw [hrest k hki hkj]; exact hk

theorem usedStays_closeAndOpen (r : CloseReason) (s : State) : usedStays s (closeAndOpen r s) := by
  rcases closeAndOpen_cases r s with heq | ⟨i, j, hi, hj, heq⟩
  · rw [heq]; exact fun _ hk => hk
  · rw [heq]; exact usedStays_close_open hi hj

theorem usedStays_closeAndForce (r : CloseReason) (s : State) : usedStays s (closeAndForce r s) := by
  rcases closeAndForce_cases r s with heq | ⟨i, j, hi, hj, heq⟩
  · rw [heq]; exact fun _ hk => hk
  · intro k hk
    rw [heq]
    exact (extendHorizon_slotState _ k _).trans_ne (usedStays_close_open hi hj k hk)

theorem closeAndOpen_part (r : CloseReason) (s : State) : (closeAndOpen r s).part = s.part := by
  rcases closeAndOpen_cases r s with heq | ⟨i, j, -, -, heq⟩
  · rw [heq]
  · rw [heq]; rfl

theorem closeAndForce_part (r : CloseReason) (s : State) : (closeAndForce r s).part = s.part := by
  rcases closeAndForce_cases r s with heq | ⟨i, j, -, -, heq⟩
  · rw [heq]
  · rw [heq]; exact extendHorizon_part _ _

theorem usedStays_releaseAll (s : State) : usedStays s (releaseAll s) := by
  intro i hi
  rw [slotState, slotOf_releaseAll]
  exact mt (letGo_state _ (by decide) (by decide)).mp hi

theorem usedStays_releaseOldest (s : State) : usedStays s (releaseOldest s) := by
  intro i hi
  unfold releaseOldest
  split
  · rename_i k _
    rw [slotState_modSlot]
    split
    · rename_i hik
      subst hik
      exact mt (letGo_state _ (by decide) (by decide)).mp hi
    · exact hi
  · exact hi

theorem releaseOldest_part (s : State) : (releaseOldest s).part = s.part := by
  unfold releaseOldest
  split <;> rfl

theorem usedStays_startBatch (i : SlotIx) (forced : Bool) (s : State) : usedStays s (startBatch i forced s) := by
  intro k hk
  rw [slotState_startBatch]
  split
  · decide
  · exact hk

/-- The close that opens no other leaves every slot in use. -/
theorem usedStays_disengageBatches (s : State) : usedStays s (disengageBatches s) := by
  intro k hk
  unfold disengageBatches
  refine usedStays_releaseAll _ k ?_
  split
  · rename_i i _
    rw [closeSlot, slotState_modSlot]
    split
    · rcases close_state .command s.sync.frameCounter (slotOf i s) with h | h <;> rw [h] <;> decide
    · exact hk
  · exact hk

theorem disengageBatches_part (s : State) : (disengageBatches s).part = s.part := by
  unfold disengageBatches
  split <;> rfl

/-! ### Entries in their slots -/

theorem entries_of_busView {s t : State} (h : busView t = busView s) : t.buf.entries = s.buf.entries := by
  rw [(busView_fields h).1]

theorem entriesPlaced_congr {s t : State} (h : entriesPlaced s) (he : t.buf.entries = s.buf.entries)
    (hp : t.part = s.part) (hs : usedStays s t) : entriesPlaced t := by
  obtain ⟨hslot, hpass⟩ := h
  refine ⟨fun e hmem => ?_, fun hpart => ?_⟩
  · rw [he] at hmem
    exact hs _ (hslot e hmem)
  · rw [hp] at hpart
    rw [he, hpass hpart]

theorem entriesPlaced_of_views {s t : State} (h : entriesPlaced s) (hb : busView t = busView s)
    (hv : batchView t = batchView s) : entriesPlaced t := by
  obtain ⟨hp, -, -⟩ := batchView_fields hv
  exact entriesPlaced_congr h (entries_of_busView hb) hp (usedStays_of_batchView hv)

theorem entriesPlaced_of_empty {s : State} (h : s.buf.entries = []) : entriesPlaced s := by
  refine ⟨fun e he => ?_, fun _ => h⟩
  rw [h] at he
  cases he

theorem entriesPlaced_filter {s : State} (h : entriesPlaced s) (p : Entry → Bool) :
    entriesPlaced { s with buf.entries := s.buf.entries.filter p } := by
  obtain ⟨hslot, hpass⟩ := h
  refine ⟨fun e he => hslot e (List.mem_filter.mp he).1, fun hp => ?_⟩
  show s.buf.entries.filter p = []
  rw [hpass hp]
  rfl

theorem entriesPlaced_composeEntry {s : State} (h : entriesPlaced s) (word : WordAddr) (i : SlotIx) (m : LaneMask)
    (u : Transform) : entriesPlaced (composeEntry word i m u s) := by
  obtain ⟨hslot, hpass⟩ := h
  refine ⟨fun x hx => ?_, fun hp => ?_⟩
  · obtain ⟨e, he, rfl⟩ := List.mem_map.mp hx
    have hsame : (if e.word == word && e.slot == i then e.compose m u else e).slot = e.slot := by split <;> rfl
    rw [hsame]
    exact hslot e he
  · show s.buf.entries.map _ = []
    rw [hpass hp]
    rfl

theorem entriesPlaced_addEntry {s : State} {e : Entry} (h : entriesPlaced s) (he : slotState e.slot s ≠ .free)
    (hp : s.part ≠ .pass) : entriesPlaced (addEntry e s) := by
  refine ⟨fun x hx => ?_, fun hpass => absurd hpass hp⟩
  rcases List.mem_append.mp hx with hx | hx
  · exact h.1 x hx
  · rw [List.mem_singleton.mp hx]
    exact he

/-! ### The course of a write -/

theorem stepMemory_buf (w : WriteJob) (s : State) : (stepMemory w s).buf = s.buf := by
  unfold stepMemory
  split <;> rfl

theorem completePlain_buf (w : WriteJob) (s : State) : (completePlain w s).buf = s.buf := by
  obtain ⟨hbuf, -⟩ := busView_fields (busView_completePlain w s)
  exact hbuf

theorem commitWithoutSlot_buf (w : WriteJob) (s : State) : (commitWithoutSlot w s).buf = s.buf := by
  unfold commitWithoutSlot
  split
  · rfl
  · exact completePlain_buf w s

theorem entriesPlaced_stepMemory {s : State} (h : entriesPlaced s) (w : WriteJob) : entriesPlaced (stepMemory w s) := by
  have hview := batchView_stepMemory w s
  exact entriesPlaced_congr h (by rw [stepMemory_buf]) (batchView_fields hview).1 (usedStays_of_batchView hview)

theorem commitSlot_some {w : WriteJob} {s : State} {i : SlotIx} (h : commitSlot w s = some i) : openSlot s = some i := by
  unfold commitSlot at h
  split at h
  · cases h
  · exact h

/-- The entry a commit makes stands in the OPEN slot. -/
theorem entriesPlaced_commit {c : Option SlotIx} {s : State} (h : entriesPlaced s) (hs : slotsWf c s) (w : WriteJob) :
    entriesPlaced (commit w s) := by
  rcases commit_cases w s with ⟨-, heq⟩ | ⟨i, hi, ⟨e, -, heq⟩ | ⟨-, -, heq⟩ | ⟨-, -, -, heq⟩⟩
  · have hview := batchView_commitWithoutSlot w s
    rw [heq]
    exact entriesPlaced_congr h (by rw [commitWithoutSlot_buf]) (batchView_fields hview).1 (usedStays_of_batchView hview)
  · rw [heq]; exact entriesPlaced_stepMemory (entriesPlaced_composeEntry h _ _ _ _) _
  · have hopen : slotState i s = .opened := openSlot_some (commitSlot_some hi)
    have hused : slotState i s ≠ .free := by rw [hopen]; decide
    rw [heq]
    exact entriesPlaced_stepMemory (entriesPlaced_addEntry h hused (not_pass_of_not_free hs hused)) _
  · rw [heq]; exact h

theorem entriesPlaced_stepCommit {c : Option SlotIx} {s : State} (h : entriesPlaced s) (hs : slotsWf c s)
    (w : WriteJob) : entriesPlaced (stepCommit w s) := by
  unfold stepCommit
  split
  · exact entriesPlaced_stepMemory h w
  · exact entriesPlaced_commit h hs w

theorem entriesPlaced_stepDestination {c : Option SlotIx} {s : State} (h : entriesPlaced s) (hs : slotsWf c s)
    (w : WriteJob) : entriesPlaced (stepDestination w s) := by
  unfold stepDestination
  split
  · exact h
  · exact entriesPlaced_stepCommit h hs w

theorem entriesPlaced_placeFreed {c : Option SlotIx} {s : State} (h : entriesPlaced s) (hs : slotsWf c s) :
    entriesPlaced (placeFreed s) := by
  rcases placeFreed_cases s with heq | ⟨w, -, -, ⟨-, heq⟩ | ⟨-, heq⟩⟩
  · rw [heq]; exact h
  · rw [heq]
    exact entriesPlaced_stepDestination (s := endStall (setWrite { w with reserved := true } s)) h hs _
  · rw [heq]
    exact entriesPlaced_stepCommit (s := endStall (setWrite { w with reserved := true } s)) h hs _

/-! ### A freed slot and the engine -/

/-- With every slot FREE no entry is left (R35). -/
theorem entries_eq_nil_of_allFree {s : State} (h : entriesPlaced s) (hfree : ∀ i, slotState i s = .free) :
    s.buf.entries = [] :=
  List.eq_nil_iff_forall_not_mem.mpr fun e he => h.1 e he (hfree e.slot)

theorem enterPass_buf (s : State) : (enterPass s).buf = s.buf := by
  unfold enterPass
  dsimp only
  split
  · split
    · rw [completePlain_buf]; rfl
    · rfl
  · rfl
  · rfl

theorem entriesPlaced_slotFreed {c : Option SlotIx} {s : State} (h : entriesPlaced s) (hs : slotsWf c s) :
    entriesPlaced (slotFreed s) := by
  rcases slotFreed_cases s with heq | ⟨-, hfree, heq⟩ | ⟨-, ⟨w, -, heq⟩ | heq | heq⟩
  · rw [heq]; exact h
  · rw [heq]
    refine entriesPlaced_of_empty ?_
    rw [enterPass_buf]
    exact entries_eq_nil_of_allFree h ((allFree_iff s).mp hfree)
  · have hview := busView_closeAndOpen (closeReasonOf w.data) s
    have hclosed : entriesPlaced (closeAndOpen (closeReasonOf w.data) s) :=
      entriesPlaced_congr h (entries_of_busView hview) (closeAndOpen_part _ s) (usedStays_closeAndOpen _ s)
    rw [heq]
    exact entriesPlaced_stepDestination (s := endStall (closeAndOpen (closeReasonOf w.data) s)) hclosed
      (slotsWf_closeAndOpen hs _) w
  · have hview := busView_closeAndForce .command { s with batch.pendingClose := false }
    rw [heq]
    exact entriesPlaced_congr h (entries_of_busView hview) (closeAndForce_part _ _)
      (usedStays_closeAndForce .command { s with batch.pendingClose := false })
  · have hview := busView_closeAndForce .force s
    rw [heq]
    exact entriesPlaced_congr h (entries_of_busView hview) (closeAndForce_part _ s) (usedStays_closeAndForce _ s)

theorem oldestEntry_none {i : SlotIx} {s : State} : oldestEntry i s = none ↔ ∀ e ∈ s.buf.entries, e.slot ≠ i := by
  simp only [oldestEntry, List.find?_eq_none, beq_iff_eq]

/-- The slot of a batch without entries becomes FREE. -/
theorem entriesPlaced_freedState {s : State} {i : SlotIx} (h : entriesPlaced s) (hi : oldestEntry i s = none) :
    entriesPlaced (freedState i s) := by
  obtain ⟨hslot, hpass⟩ := h
  obtain ⟨hbuf, -⟩ := busView_fields (busView_freedState i s)
  refine ⟨fun e he => ?_, fun hp => ?_⟩
  · rw [hbuf] at he
    rw [freedState_slotState, if_neg (oldestEntry_none.mp hi e he)]
    exact hslot e he
  · rw [freedState_part] at hp
    rw [hbuf, hpass hp]

theorem entriesPlaced_completeBatch {s : State} {i : SlotIx} (h : entriesPlaced s) (hs : batchesWf s)
    (hc : s.drain.current = some i) (hi : oldestEntry i s = none) : entriesPlaced (completeBatch i s) := by
  rw [batchesWf_iff, hc] at hs
  have hfreed := entriesPlaced_slotFreed (entriesPlaced_freedState h hi) (slotsWf_freedState hs)
  rw [completeBatch_eq]
  exact entriesPlaced_congr hfreed rfl rfl fun _ hk => hk

theorem entriesPlaced_takeEntry {s : State} (h : entriesPlaced s) (i : SlotIx) (e : Entry) :
    entriesPlaced (takeEntry i e s) :=
  entriesPlaced_congr h (entries_of_busView (busView_takeEntry i e s)) (takeEntry_part i e s)
    (usedStays_of_eq (takeEntry_slotState i e · s))

theorem entriesPlaced_engineTest {s : State} (h : entriesPlaced s) (hs : batchesWf s) : entriesPlaced (engineTest s) := by
  have hboth : batchesWf (engineTest s) ∧ entriesPlaced (engineTest s) := by
    refine engineTest_keeps_current (P := fun s => batchesWf s ∧ entriesPlaced s) ?start ?take ?complete ⟨hs, h⟩
    case start =>
      rintro i forced s ⟨hs, h⟩ hc
      have hview := busView_startBatch i forced s
      exact ⟨batchesWf_startBatch hs hc, entriesPlaced_congr h (entries_of_busView hview)
        (startBatch_part i forced s) (usedStays_startBatch i forced s)⟩
    case take =>
      rintro i e s ⟨hs, h⟩ - -
      exact ⟨batchesWf_takeEntry hs i e, entriesPlaced_takeEntry h i e⟩
    case complete =>
      rintro i s ⟨hs, h⟩ hc hi
      exact ⟨batchesWf_completeBatch hs hc, entriesPlaced_completeBatch h hs hc hi⟩
  exact hboth.2

theorem entriesPlaced_nextEntry {s : State} {i : SlotIx} (h : entriesPlaced s) (hs : batchesWf s)
    (hc : s.drain.current = some i) : entriesPlaced (nextEntry i s) := by
  unfold nextEntry
  split
  · exact entriesPlaced_takeEntry h i _
  · rename_i hi
    exact entriesPlaced_engineTest (entriesPlaced_completeBatch h hs hc hi) (batchesWf_completeBatch hs hc)

/-! ### Acceptance of a write -/

theorem entriesPlaced_otherMarkEffect {s : State} (h : entriesPlaced s) (hs : batchesWf s) (w : WriteJob) :
    entriesPlaced (otherMarkEffect w s) := by
  unfold otherMarkEffect
  split
  · split
    · have hview := busView_releaseOldest s
      exact entriesPlaced_engineTest (entriesPlaced_congr h (entries_of_busView hview) (releaseOldest_part s)
        (usedStays_releaseOldest s)) (batchesWf_releaseOldest hs)
    · exact h
  · exact entriesPlaced_of_views h (busView_snoopConsumer _ s) (batchView_snoopConsumer _ s)
  · exact h
  · exact h

/-- A write goes on to its steps in a state whose entries and slots are in order. -/
theorem entriesPlaced_goOn {s : State} (h : entriesPlaced s) (hs : batchesWf s) (w : WriteJob) :
    entriesPlaced (stepDestination w s) := entriesPlaced_stepDestination h ((batchesWf_iff s).mp hs) w

theorem entriesPlaced_acceptEngaged {s : State} (h : entriesPlaced s) (hs : batchesWf s) (w : WriteJob) :
    entriesPlaced (acceptEngaged w s) := by
  unfold acceptEngaged
  split
  · split
    · exact entriesPlaced_goOn (s := setWrite { w with reserved := true } s) h hs _
    · exact h
  · split
    · unfold acceptClose
      split
      · have hview := busView_closeAndOpen (closeReasonOf w.data) s
        have hclosed : entriesPlaced (closeAndOpen (closeReasonOf w.data) s) :=
          entriesPlaced_congr h (entries_of_busView hview) (closeAndOpen_part _ s) (usedStays_closeAndOpen _ s)
        have hbatches := batchesWf_closeAndOpen hs (closeReasonOf w.data)
        exact entriesPlaced_goOn (entriesPlaced_engineTest hclosed hbatches) (batchesWf_engineTest hbatches) w
      · exact h
    · exact entriesPlaced_goOn (entriesPlaced_otherMarkEffect h hs w) (batchesWf_otherMarkEffect hs w) w

theorem entriesPlaced_acceptWrite {s : State} (h : entriesPlaced s) (hs : batchesWf s) (word : WordAddr)
    (lanes : LaneMask) (data : Word) : entriesPlaced (acceptWrite word lanes data s) := by
  unfold acceptWrite
  split
  · exact entriesPlaced_stepMemory (entriesPlaced_otherMarkEffect h hs _) _
  · exact entriesPlaced_acceptEngaged h hs _
  · unfold acceptQuiescing
    split
    · exact h
    · exact entriesPlaced_goOn (entriesPlaced_otherMarkEffect h hs _) (batchesWf_otherMarkEffect hs _) _

/-! ### The memory port -/

theorem entriesPlaced_takeResponse {s : State} (h : entriesPlaced s) (f : InFlight) (failed : Bool) :
    entriesPlaced (takeResponse f failed s) :=
  entriesPlaced_of_views h (busView_takeResponse f failed s) (batchView_takeResponse f failed s)

theorem entriesPlaced_afterDestinationRead {s : State} (h : entriesPlaced s) (hs : batchesWf s) (w : WriteJob)
    (reply : ReadReply) : entriesPlaced (afterDestinationRead w reply s) := by
  unfold afterDestinationRead
  split
  · exact entriesPlaced_stepMemory h _
  · split
    · rename_i d
      exact entriesPlaced_stepCommit (s := setWrite { w with readData := some d } s) h ((batchesWf_iff s).mp hs) _
    · exact h

theorem entriesPlaced_countDrained {s : State} (h : entriesPlaced s) (i : SlotIx) : entriesPlaced (countDrained i s) :=
  entriesPlaced_congr h rfl rfl
    (usedStays_of_eq (slotState_modSlot_of_state (g := fun b => { b with entriesDrained := b.entriesDrained + 1 })
      (fun _ => rfl) i · s))

theorem entriesPlaced_drainError {s : State} (h : entriesPlaced s) (i : SlotIx) : entriesPlaced (drainError i s) :=
  entriesPlaced_congr h rfl rfl
    (usedStays_of_eq (slotState_modSlot_of_state
      (g := fun b => { b with memErr := true, memErrors := satInc Config.byteLimit b.memErrors }) (fun _ => rfl) i · s))

theorem entriesPlaced_grantDrain {s : State} (h : entriesPlaced s) (hs : batchesWf s) : entriesPlaced (grantDrain s) := by
  unfold grantDrain
  split
  · rename_i i e _ _
    split
    · have hgranted : entriesPlaced { s with drain.access := .writeInFlight } := h
      have hcount := entriesPlaced_countDrained hgranted i
      have hcounted : batchesWf (countDrained i { s with drain.access := .writeInFlight }) :=
        batchesWf_countDrained (s := { s with drain.access := .writeInFlight }) hs i
      obtain ⟨hp, hstate, hc⟩ := tornTest_batch i (countDrained i { s with drain.access := .writeInFlight })
      have hview := busView_tornTest i (countDrained i { s with drain.access := .writeInFlight })
      have htorn := entriesPlaced_congr hcount (entries_of_busView hview) hp (usedStays_of_eq hstate)
      exact entriesPlaced_placeFreed (entriesPlaced_filter htorn _)
        ((batchesWf_iff _).mp (batchesWf_congr hcounted hp hstate hc))
    · exact h
  · exact h

theorem grantSystem_buf (s : State) : (grantSystem s).buf = s.buf := by
  unfold grantSystem
  split
  · rfl
  · rfl
  · split <;> rfl

theorem entriesPlaced_grantTo {s : State} (h : entriesPlaced s) (hs : batchesWf s) (r : Requester) :
    entriesPlaced (grantTo r s) := by
  rcases grantTo_cases r s with heq | ⟨q, ⟨-, -, heq⟩ | ⟨-, -, heq⟩ | ⟨-, -, heq⟩ | ⟨-, -, heq⟩⟩
  · rw [heq]; exact h
  · rw [heq]; exact h
  · rw [heq]; exact entriesPlaced_of_views h (busView_grantRecord _) (grantRecord_batchView _)
  · have hasked : entriesPlaced (putInFlight q { s with waits := waitsAfter r s }) := h
    rw [heq]; exact entriesPlaced_grantDrain hasked hs
  · have hview := grantSystem_batchView (putInFlight q { s with waits := waitsAfter r s })
    rw [heq]
    exact entriesPlaced_congr h (by rw [grantSystem_buf]; rfl) (batchView_fields hview).1 (usedStays_of_batchView hview)

theorem entriesPlaced_afterDrainRead {s : State} {i : SlotIx} (h : entriesPlaced s) (hs : batchesWf s)
    (hc : s.drain.current = some i) (e : Entry) (reply : ReadReply) : entriesPlaced (afterDrainRead i e reply s) := by
  cases reply with
  | ok d => exact h
  | error =>
    have hcounted : batchesWf (countDrained i (drainError i s)) := batchesWf_countDrained (batchesWf_drainError hs i) i
    have hremoved := entriesPlaced_filter (entriesPlaced_countDrained (entriesPlaced_drainError h i) i)
      fun x => !(x.word == e.word && x.slot == i)
    have hview := batchView_placeFreed (removeEntry e.word i (countDrained i (drainError i s)))
    obtain ⟨-, -, hd⟩ := batchView_fields hview
    exact entriesPlaced_nextEntry (entriesPlaced_placeFreed hremoved ((batchesWf_iff _).mp hcounted))
      (batchesWf_of_batchView hcounted hview) (by rw [hd]; exact hc)

theorem entriesPlaced_afterDrainWrite {s : State} {i : SlotIx} (h : entriesPlaced s) (hs : batchesWf s)
    (hc : s.drain.current = some i) (reply : WriteReply) : entriesPlaced (afterDrainWrite i reply s) := by
  cases reply with
  | ok => exact entriesPlaced_nextEntry h hs hc
  | error => exact entriesPlaced_nextEntry (entriesPlaced_drainError h i) (batchesWf_drainError hs i) hc

/-! ### Forces and blank starts -/

theorem usedStays_extendHorizonTo (o : Option SlotIx) (s : State) : usedStays s (extendHorizonTo o s) :=
  usedStays_of_eq (extendHorizonTo_slotState o · s)

theorem usedStays.trans {s t u : State} (h : usedStays s t) (k : usedStays t u) : usedStays s u :=
  fun i hi => k i (h i hi)

theorem forceForPlace_slots (s : State) : (forceForPlace s).part = s.part ∧ usedStays s (forceForPlace s) := by
  have howed := usedStays_extendHorizonTo (youngestNonOpen s) { s with stall.forceCloseOwed := true }
  unfold forceForPlace
  split
  · exact ⟨extendHorizon_part _ s, usedStays_of_eq (extendHorizon_slotState _ · s)⟩
  · dsimp only
    split
    · exact ⟨(closeAndForce_part _ _).trans (extendHorizonTo_part _ _), howed.trans (usedStays_closeAndForce _ _)⟩
    · exact ⟨extendHorizonTo_part _ _, howed⟩

theorem forceFor_slots (c : StallCause) (s : State) : (forceFor c s).part = s.part ∧ usedStays s (forceFor c s) := by
  cases c with
  | place => exact forceForPlace_slots s
  | slot => exact ⟨extendHorizonTo_part _ s, usedStays_extendHorizonTo _ s⟩
  | pass => exact ⟨extendHorizonTo_part _ s, usedStays_extendHorizonTo _ s⟩

theorem batchesWf_forceFor {s : State} (h : batchesWf s) (c : StallCause) : batchesWf (forceFor c s) := by
  cases c with
  | place => exact batchesWf_forceForPlace h
  | slot => exact batchesWf_extendHorizonTo h _
  | pass => exact batchesWf_extendHorizonTo h _

theorem entriesPlaced_force {s : State} (h : entriesPlaced s) (hs : batchesWf s) (c : StallCause) :
    entriesPlaced (engineTest (forceFor c s)) := by
  obtain ⟨hp, hused⟩ := forceFor_slots c s
  exact entriesPlaced_engineTest (entriesPlaced_congr h (entries_of_busView (busView_forceFor c s)) hp hused)
    (batchesWf_forceFor hs c)

theorem entriesPlaced_expireStall {s : State} (h : entriesPlaced s) (hs : batchesWf s) : entriesPlaced (expireStall s) :=
  entriesPlaced_force (s := modCounters Counters.addExpiry (raise .expiry { s with stall.expired := true })) h hs _

theorem entriesPlaced_raiseBlankStart {s : State} (h : entriesPlaced s) (hs : batchesWf s) :
    entriesPlaced (raiseBlankStart s) := by
  obtain ⟨hp, hb, hc⟩ := extendDrainSet_batch (modCounters Counters.addFrame
    { s with sync.blanking := some true, sync.frameCounter := s.sync.frameCounter + 1 })
  have hview := busView_extendDrainSet (modCounters Counters.addFrame
    { s with sync.blanking := some true, sync.frameCounter := s.sync.frameCounter + 1 })
  exact entriesPlaced_engineTest (entriesPlaced_congr h (entries_of_busView hview) hp
    (usedStays_of_eq (slotState_congr hb))) (batchesWf_congr hs hp (slotState_congr hb) hc)

/-! ### The commands -/

theorem entriesPlaced_cmdEngage {s : State} (h : entriesPlaced s) : entriesPlaced (cmdEngage s).next := by
  unfold cmdEngage
  split
  · exact h
  · rename_i hpass
    have hempty := h.2 (not_not.mp hpass)
    split
    · exact h
    · split
      · exact h
      · exact entriesPlaced_of_empty hempty

theorem stallToPass_slots (s : State) : (stallToPass s).part = s.part ∧ usedStays s (stallToPass s) := by
  unfold stallToPass
  dsimp only
  split
  · exact ⟨extendHorizonTo_part _ _, usedStays_extendHorizonTo _ { s with stall.cause := .pass, stall.forceCloseOwed := false }⟩
  · exact ⟨rfl, fun _ hk => hk⟩

theorem stallToPass_buf (s : State) : (stallToPass s).buf = s.buf := (busView_fields (busView_stallToPass s)).1

theorem disengageWrite_slots (s : State) :
    (disengageWrite s).buf = s.buf ∧ (disengageWrite s).part = s.part ∧ usedStays s (disengageWrite s) := by
  unfold disengageWrite
  split
  · rename_i w _
    split
    · exact ⟨stallToPass_buf _, stallToPass_slots (setWrite { w with phase := .waitPass } s)⟩
    · exact ⟨stallToPass_buf _, stallToPass_slots (setWrite { w with phase := .waitPass, readData := none } s)⟩
    · have hview := batchView_stepMemory w (endStall s)
      exact ⟨stepMemory_buf _ _, (batchView_fields hview).1, usedStays_of_batchView hview⟩
    all_goals exact ⟨rfl, rfl, fun _ hk => hk⟩
  · exact ⟨rfl, rfl, fun _ hk => hk⟩
  · exact ⟨rfl, rfl, fun _ hk => hk⟩

theorem entriesPlaced_cmdDisengage {s : State} (h : entriesPlaced s) (hs : batchesWf s) :
    entriesPlaced (cmdDisengage s).next := by
  unfold cmdDisengage
  split
  · exact h
  · rename_i hp
    have hp := not_not.mp hp
    have hquiet : entriesPlaced { s with part := .quiescing, batch.pendingClose := false } := ⟨h.1, fun hq => by cases hq⟩
    have hview := busView_disengageBatches { s with part := .quiescing, batch.pendingClose := false }
    have hclosed := entriesPlaced_congr hquiet (entries_of_busView hview) (disengageBatches_part _)
      (usedStays_disengageBatches _)
    have hbatches := batchesWf_disengageBatches hs hp
    obtain ⟨hbuf, hpart, hused⟩ := disengageWrite_slots
      { disengageBatches { s with part := .quiescing, batch.pendingClose := false } with stall.forceCloseOwed := false }
    exact entriesPlaced_engineTest (entriesPlaced_congr hclosed (by rw [hbuf]) hpart hused)
      (batchesWf_disengageWrite hbatches)

theorem entriesPlaced_cmdDiscard {s : State} (h : entriesPlaced s) (hs : batchesWf s) :
    entriesPlaced (cmdDiscard s).next := by
  unfold cmdDiscard
  split
  · exact h
  · show entriesPlaced (discardOpen s)
    unfold discardOpen
    split
    · exact h
    · split
      · exact entriesPlaced_placeFreed (entriesPlaced_filter h _) ((batchesWf_iff s).mp hs)
      · exact h

theorem flushEngaged_slots (s : State) : (flushEngaged s).part = s.part ∧ usedStays s (flushEngaged s) := by
  unfold flushEngaged
  dsimp only
  split
  · exact ⟨(extendHorizonTo_part _ _).trans (closeAndForce_part _ s),
      ((usedStays_closeAndForce _ s).trans (usedStays_releaseAll _)).trans (usedStays_extendHorizonTo _ _)⟩
  · exact ⟨extendHorizonTo_part _ _,
      (usedStays_releaseAll s).trans (usedStays_extendHorizonTo _ { releaseAll s with batch.pendingClose := true })⟩

theorem entriesPlaced_cmdFlush {s : State} (h : entriesPlaced s) (hs : batchesWf s) :
    entriesPlaced (cmdFlush s).next := by
  unfold cmdFlush
  split
  · exact h
  · obtain ⟨hp, hused⟩ := flushEngaged_slots s
    have hview := busView_flushEngaged s
    exact entriesPlaced_engineTest (entriesPlaced_congr h (entries_of_busView hview) hp hused)
      (batchesWf_flushEngaged hs)
  · have hview := busView_extendHorizonTo (youngestNonOpen s) s
    exact entriesPlaced_engineTest (entriesPlaced_congr h (entries_of_busView hview) (extendHorizonTo_part _ s)
      (usedStays_extendHorizonTo _ s)) (batchesWf_extendHorizonTo hs _)

theorem entriesPlaced_runCommand {s : State} (h : entriesPlaced s) (hs : batchesWf s) (c : SetupCommand) :
    entriesPlaced (runCommand c s).next := by
  by_cases hbatch : c = .engage ∨ c = .disengage ∨ c = .discard ∨ c = .flush
  · rcases hbatch with rfl | rfl | rfl | rfl
    · exact entriesPlaced_cmdEngage h
    · exact entriesPlaced_cmdDisengage h hs
    · exact entriesPlaced_cmdDiscard h hs
    · exact entriesPlaced_cmdFlush h hs
  · simp only [not_or] at hbatch
    obtain ⟨he, hd, hx, hf⟩ := hbatch
    have hview := runCommand_batchView he hd hx hf s
    have hentries : (runCommand c s).next.buf.entries = s.buf.entries := by
      by_cases hc : ∃ o, c = .counters o
      · obtain ⟨o, rfl⟩ := hc
        dsimp only [runCommand, cmdCounters]
        (repeat' split) <;> rfl
      · rw [(busView_fields (runCommand_busView hd hx hf (not_exists.mp hc) s)).1]
    exact entriesPlaced_congr h hentries (batchView_fields hview).1 (usedStays_of_batchView hview)

theorem entriesPlaced_effect {c : Instr} {s t : State} (h : entriesPlaced s) (hs : batchesWf s) (he : Effect c s t) :
    entriesPlaced t := by
  have hanswered (f : InFlight) (failed : Bool) : entriesPlaced (takeResponse f failed s) :=
    entriesPlaced_takeResponse h f failed
  have hbatches (f : InFlight) (failed : Bool) : batchesWf (takeResponse f failed s) := batchesWf_takeResponse hs f failed
  cases he with
  | ran hcmd => exact entriesPlaced_runCommand h hs _
  | softReset p hp =>
    refine entriesPlaced_of_empty ?_
    rw [(busView_fields (softReset_busView _)).1]
    rfl
  | pinReset p => exact entriesPlaced_of_empty rfl
  | expiry hd => exact entriesPlaced_expireStall h hs
  | blankStart hc high => exact entriesPlaced_raiseBlankStart (s := { s with blank := _ }) h hs
  | writeTaken word data hi hl => exact entriesPlaced_acceptWrite (s := { s with sysAnswer := none }) h hs _ _ _
  | granted hf hr => exact entriesPlaced_grantTo h hs _
  | systemReadAnswered hf hr reply => exact hanswered _ _
  | destinationReadAnswered hf hw reply => exact entriesPlaced_afterDestinationRead (hanswered _ _) (hbatches _ _) _ reply
  | immediateWriteAnswered hf hw reply => exact hanswered _ _
  | refreshReadAnswered hf reply => exact hanswered _ _
  | discarded failed hc hf => exact hanswered _ _
  | drainReadAnswered hf hi he reply =>
    exact entriesPlaced_afterDrainRead (hanswered _ _) (hbatches _ _) ((takeResponse_current _ _ s).trans hi) _ reply
  | drainWriteAnswered hf hi reply =>
    exact entriesPlaced_afterDrainWrite (hanswered _ _) (hbatches _ _) ((takeResponse_current _ _ s).trans hi) reply
  | recordWriteAnswered hf reply =>
    exact entriesPlaced_of_views (hanswered _ _) (busView_afterRecordWrite _) (afterRecordWrite_batchView _)
  | _ => exact h

/-- Settles O8: an entry is made in the OPEN slot alone, a slot becomes FREE once its entries have gone, and the part
enters PASS with every slot FREE. -/
theorem stepKeepsEntriesPlaced : Obligations.StepKeepsEntriesPlaced := by
  intro s t h hs hstep
  have hboth : batchesWf t ∧ entriesPlaced t :=
    step_keeps (P := fun s => batchesWf s ∧ entriesPlaced s) (fun _ _ h => h)
      (fun _ _ _ ⟨hs, h⟩ he => ⟨batchesWf_effect hs he, entriesPlaced_effect h hs he⟩) ⟨hs, h⟩ hstep
  exact hboth.2

end Sys2Proof.Machine
end

section
/-! PROOFS. The watched words and the ring words hold no entry (R38): the lanes a write may hold are held already or lie in
a DEFER window, no window covers a protected word, and what is protected changes in PASS alone, where nothing is held. -/

namespace Sys2Proof.Machine

/-! ### The lanes a write may hold -/

theorem exists_hasLane {m : LaneMask} (h : m ≠ 0#4) : ∃ i, hasLane m i = true := by
  revert m
  decide

@[simp] theorem hasLane_or (m l : LaneMask) (i : LaneIx) : hasLane (m ||| l) i = (hasLane m i || hasLane l i) :=
  BitVec.getLsbD_or

@[simp] theorem hasLane_zero (i : LaneIx) : hasLane 0#4 i = false := BitVec.getLsbD_zero

/-- A lane of a word is held when some entry of the word has it (R37). -/
theorem hasLane_heldLanes (word : WordAddr) (s : State) (i : LaneIx) :
    hasLane (heldLanes word s) i = true ↔ ∃ e ∈ s.buf.entries, e.word = word ∧ hasLane e.lanes i = true := by
  unfold heldLanes
  induction s.buf.entries with
  | nil => simp
  | cons e l ih =>
    simp only [List.foldr_cons, List.exists_mem_cons_iff]
    by_cases hw : e.word = word
    · simp only [hw, beq_self_eq_true, if_true, hasLane_or, Bool.or_eq_true, ih, true_and]
      exact or_comm
    · simpa [hw] using ih

theorem hasLane_lanesToHold (w : WriteJob) (i : LaneIx) :
    hasLane w.lanesToHold i = true ↔
      (w.classes.get i = .carried ∨ w.classes.get i = .deferred) ∧ w.xf.isIdentityOn i = false := by
  simp [WriteJob.lanesToHold, WriteJob.heldClassLanes]

/-- A carried lane is held. -/
theorem held_of_carried {s : State} {word : WordAddr} {lanes : LaneMask} {data : Word} {held : LaneMask} {i : LaneIx}
    (h : (laneWork s word lanes data held i).cls = .carried) :
    hasLane held i = true ∧ (laneWork s word lanes data held i).deferrable = true := by
  unfold laneWork at h ⊢
  split
  · rename_i hl
    rw [if_pos hl] at h
    split
    · rename_i hr
      rw [hr] at h
      by_cases hh : hasLane held i = true <;> simp_all
    · rename_i w hr
      rw [hr] at h
      dsimp only at h ⊢
      split
      · rename_i hk
        rw [if_pos hk] at h
        cases h
      · rename_i hk
        rw [if_neg hk] at h
        by_cases hh : hasLane held i = true
        · simp [hh]
        · by_cases hm : w.mode = .defer <;> simp_all
  · rename_i hl
    rw [if_neg hl] at h
    cases h

/-- A deferred lane is resolved to a window. -/
theorem resolved_of_deferred {s : State} {word : WordAddr} {lanes : LaneMask} {data : Word} {held : LaneMask} {i : LaneIx}
    (h : (laneWork s word lanes data held i).cls = .deferred) :
    (∃ w, resolve s (bytePosition word i) = some w) ∧ (laneWork s word lanes data held i).deferrable = true := by
  unfold laneWork at h ⊢
  split
  · rename_i hl
    rw [if_pos hl] at h
    split
    · rename_i hr
      rw [hr] at h
      by_cases hh : hasLane held i = true <;> simp_all
    · rename_i w hr
      rw [hr] at h
      refine ⟨⟨w, hr⟩, ?_⟩
      dsimp only at h ⊢
      split
      · rename_i hk
        rw [if_pos hk] at h
        cases h
      · rename_i hk
        rw [if_neg hk] at h
        by_cases hm : w.mode = .defer
        · simp [hm]
        · by_cases hh : hasLane held i = true <;> simp_all
  · rename_i hl
    rw [if_neg hl] at h
    cases h

/-- A window that contains a byte of a word covers the word. -/
theorem covers_of_contains {w : Window} {word : WordAddr} {i : LaneIx} (h : w.contains (bytePosition word i) = true) :
    w.covers word = true := by
  unfold Window.covers
  match i with
  | 0 => simp [h]
  | 1 => simp [h]
  | 2 => simp [h]
  | 3 => simp [h]

/-- The word of a resolved byte is not protected (R9). -/
theorem not_protected_of_resolve {s : State} {word : WordAddr} {i : LaneIx} {w : Window} (ha : windowsApart s)
    (h : resolve s (bytePosition word i) = some w) : word ∉ protectedWords s.cfg := by
  obtain ⟨he, hc⟩ := enabled_and_contains_of_resolve h
  have hmem : w ∈ s.cfg.windows.toList := List.mem_of_find?_eq_some h
  have hcovered : windowCovers s.cfg word = true :=
    List.any_eq_true.mpr ⟨w, hmem, by rw [he, covers_of_contains hc]; rfl⟩
  obtain ⟨k, hk, hcov⟩ := (windowCovers_iff word s).mp hcovered
  intro hp
  rw [ha k hk word hp] at hcov
  cases hcov

/-! ### The three clauses -/

/-- No entry addresses a protected word. -/
def bufferApart (s : State) : Prop := ∀ e ∈ s.buf.entries, e.word ∉ protectedWords s.cfg

/-- A write that may still make an entry stands in ENGAGED, at a word that is not protected. -/
def jobApart (w : WriteJob) (s : State) : Prop :=
  w.mayCommit = true → s.part = .engaged ∧ w.word ∉ protectedWords s.cfg

/-- No destination read is in flight. -/
def noDestRead (s : State) : Prop := ∀ f, s.inFlight = some f → f.req.kind ≠ .destinationRead

/-- A destination read in flight is that of the write in progress. -/
def readApart (s : State) : Prop :=
  ∀ f, s.inFlight = some f → f.req.kind = .destinationRead → ∃ w, s.sys = .write w ∧ w.phase = .destInFlight

theorem entriesApart_iff (s : State) :
    entriesApart s ↔ bufferApart s ∧ (∀ w, s.sys = .write w → jobApart w s) ∧ readApart s :=
  Iff.rfl

theorem bufferApart_congr {s t : State} (h : bufferApart s) (he : t.buf.entries = s.buf.entries) (hc : t.cfg = s.cfg) :
    bufferApart t := by
  unfold bufferApart
  rw [he, hc]
  exact h

theorem readApart_congr {s t : State} (h : readApart s) (hs : t.sys = s.sys) (hf : t.inFlight = s.inFlight) :
    readApart t := by
  unfold readApart
  rw [hs, hf]
  exact h

theorem jobApart_of_entriesApart {s : State} {w : WriteJob} (h : entriesApart s) (hw : s.sys = .write w) : jobApart w s :=
  h.2.1 w hw

/-- A destination read in flight belongs to a write that waits for it. -/
theorem noDestRead_of_entriesApart {s : State} (h : entriesApart s)
    (hw : ∀ w, s.sys = .write w → w.phase ≠ .destInFlight) : noDestRead s := by
  obtain ⟨-, -, hread⟩ := h
  intro f hf hk
  obtain ⟨w, hsys, hp⟩ := hread f hf hk
  exact hw w hsys hp

theorem noDestRead_of_idle {s : State} (h : entriesApart s) (hidle : s.sys = .idle) : noDestRead s :=
  noDestRead_of_entriesApart h fun w hw => by rw [hidle] at hw; cases hw

theorem noDestRead_congr {s t : State} (h : noDestRead s) (ho : outer t = outer s) : noDestRead t := by
  obtain ⟨-, -, -, -, -, -, -, -, hf, -⟩ := outer_fields ho
  unfold noDestRead
  rw [hf]
  exact h

/-- Only the entries, the system port, the part state, the protected words and the request in flight matter. -/
theorem entriesApart_congr {s t : State} (h : entriesApart s) (he : t.buf.entries = s.buf.entries) (hs : t.sys = s.sys)
    (hp : t.part = s.part) (hc : protectedWords t.cfg = protectedWords s.cfg) (hf : t.inFlight = s.inFlight) :
    entriesApart t := by
  unfold entriesApart
  rw [he, hs, hp, hc, hf]
  exact h

theorem entriesApart_of_views {s t : State} (h : entriesApart s) (hb : busView t = busView s) (hp : t.part = s.part)
    (ho : outer t = outer s) : entriesApart t := by
  obtain ⟨-, -, hc, -, -, -, -, -, hf, -⟩ := outer_fields ho
  exact entriesApart_congr h (entries_of_busView hb) (busView_fields hb).2 hp (by rw [hc]) hf

theorem bufferApart_filter {s : State} (h : bufferApart s) (p : Entry → Bool) :
    bufferApart { s with buf.entries := s.buf.entries.filter p } := fun e he => h e (List.mem_filter.mp he).1

theorem entriesApart_filter {s : State} (h : entriesApart s) (p : Entry → Bool) :
    entriesApart { s with buf.entries := s.buf.entries.filter p } := ⟨bufferApart_filter h.1 p, h.2⟩

theorem bufferApart_composeEntry {s : State} (h : bufferApart s) (word : WordAddr) (i : SlotIx) (m : LaneMask)
    (u : Transform) : bufferApart (composeEntry word i m u s) := by
  intro x hx
  obtain ⟨e, he, rfl⟩ := List.mem_map.mp hx
  have hsame : (if e.word == word && e.slot == i then e.compose m u else e).word = e.word := by split <;> rfl
  rw [hsame]
  exact h e he

theorem bufferApart_addEntry {s : State} {e : Entry} (h : bufferApart s) (he : e.word ∉ protectedWords s.cfg) :
    bufferApart (addEntry e s) := by
  intro x hx
  rcases List.mem_append.mp hx with hx | hx
  · exact h x hx
  · rw [List.mem_singleton.mp hx]
    exact he

/-- Outside ENGAGED no write may make an entry, so the part state may change there. -/
theorem entriesApart_part {s : State} (h : entriesApart s) (hp : s.part ≠ .engaged) (p : PartState) :
    entriesApart { s with part := p } := by
  obtain ⟨hbuf, hjob, hread⟩ := h
  exact ⟨hbuf, fun w hw hm => absurd (hjob w hw hm).1 hp, hread⟩

/-! ### The course of a write -/

/-- What a write needs so that its commit makes no entry at a protected word. -/
def courseApart (w : WriteJob) (s : State) : Prop :=
  w.leftEngaged = false → w.lanesToHold ≠ 0#4 → s.part = .engaged ∧ w.word ∉ protectedWords s.cfg

theorem entriesApart_setWrite {s : State} {w : WriteJob} (hb : bufferApart s) (hj : jobApart w s) (hn : noDestRead s) :
    entriesApart (setWrite w s) := by
  refine ⟨hb, fun v hv => ?_, fun f hf hk => absurd hk (hn f hf)⟩
  cases hv
  exact hj

theorem entriesApart_answerSystem {s : State} (hb : bufferApart s) (hn : noDestRead s) (a : Answer) :
    entriesApart (answerSystem a s) :=
  ⟨hb, fun _ hv => SysPort.noConfusion hv, fun f hf hk => absurd hk (hn f hf)⟩

/-- A write in a phase without a commit ahead of it. -/
theorem jobApart_of_phase {w : WriteJob} (h : w.phase = .waitPass ∨ w.phase = .writeRequested ∨ w.phase = .writeInFlight)
    (s : State) : jobApart w s := by
  intro hm
  unfold WriteJob.mayCommit at hm
  rcases h with h | h | h <;> simp [h] at hm

theorem entriesApart_stepMemory {s : State} (hb : bufferApart s) (hn : noDestRead s) (w : WriteJob) :
    entriesApart (stepMemory w s) := by
  unfold stepMemory
  split
  · exact entriesApart_answerSystem hb hn _
  · exact entriesApart_setWrite hb (jobApart_of_phase (.inr (.inl rfl)) s) hn

theorem entriesApart_completePlain {s : State} (hb : bufferApart s) (hn : noDestRead s) (w : WriteJob) :
    entriesApart (completePlain w s) := by
  have hset : entriesApart (setWrite { w.asPlain with phase := .writeRequested } s) :=
    entriesApart_setWrite hb (jobApart_of_phase (.inr (.inl rfl)) s) hn
  exact entriesApart_of_views hset (busView_completePlain w s) ((batchView_fields (batchView_completePlain w s)).1)
    (outer_completePlain w s)

theorem entriesApart_commitWithoutSlot {s : State} (hb : bufferApart s) (hn : noDestRead s) (w : WriteJob) :
    entriesApart (commitWithoutSlot w s) := by
  unfold commitWithoutSlot
  split
  · exact entriesApart_of_views (entriesApart_setWrite hb (jobApart_of_phase (.inl rfl) s) hn) (busView_beginStall _ _) rfl
      (outer_beginStall _ _)
  · exact entriesApart_completePlain hb hn w

theorem leftEngaged_of_commitSlot {w : WriteJob} {s : State} {i : SlotIx} (h : commitSlot w s = some i) :
    w.leftEngaged = false := by
  by_contra hleft
  rw [commitSlot_left (Bool.not_eq_false _ ▸ hleft)] at h
  cases h

theorem entriesApart_commit {s : State} {w : WriteJob} (hb : bufferApart s) (hn : noDestRead s) (hc : courseApart w s)
    (hl : w.lanesToHold ≠ 0#4) : entriesApart (commit w s) := by
  rcases commit_cases w s with ⟨-, heq⟩ | ⟨i, hi, ⟨e, -, heq⟩ | ⟨-, -, heq⟩ | ⟨-, -, -, heq⟩⟩
  · rw [heq]; exact entriesApart_commitWithoutSlot hb hn w
  · rw [heq]; exact entriesApart_stepMemory (bufferApart_composeEntry hb _ _ _ _) hn _
  · obtain ⟨-, hword⟩ := hc (leftEngaged_of_commitSlot hi) hl
    rw [heq]; exact entriesApart_stepMemory (bufferApart_addEntry (e := w.newEntry i) hb hword) hn _
  · have hjob : jobApart { w with phase := .waitCommitPlace } s := fun _ => hc (leftEngaged_of_commitSlot hi) hl
    rw [heq]; exact entriesApart_of_views (entriesApart_setWrite hb hjob hn) (busView_beginStall _ _) rfl rfl

theorem entriesApart_stepCommit {s : State} {w : WriteJob} (hb : bufferApart s) (hn : noDestRead s)
    (hc : courseApart w s) : entriesApart (stepCommit w s) := by
  unfold stepCommit
  split
  · exact entriesApart_stepMemory hb hn w
  · rename_i hl
    exact entriesApart_commit hb hn hc hl

theorem entriesApart_stepDestination {s : State} {w : WriteJob} (hb : bufferApart s) (hn : noDestRead s)
    (hc : courseApart w s) : entriesApart (stepDestination w s) := by
  unfold stepDestination
  split
  · refine entriesApart_setWrite hb (fun hm => ?_) hn
    obtain ⟨hl, -, hleft⟩ : w.lanesToHold ≠ 0#4 ∧ w.plain = false ∧ w.leftEngaged = false := by
      simpa [WriteJob.mayCommit, WriteJob.lanesToHold, WriteJob.heldClassLanes] using hm
    exact hc hleft hl
  · exact entriesApart_stepCommit hb hn hc

/-- A write that waits for a place or a slot may still commit, where it has lanes to hold. -/
theorem courseApart_of_waiting {s : State} {w : WriteJob} (h : jobApart w s)
    (hp : w.phase = .waitPlace ∨ w.phase = .waitSlot ∨ w.phase = .waitCommitPlace) : courseApart w s := by
  intro _ hl
  refine h ?_
  unfold WriteJob.mayCommit
  rcases hp with hp | hp | hp <;> simp [hp, hl]

theorem entriesApart_placeFreed {s : State} (h : entriesApart s) : entriesApart (placeFreed s) := by
  have hread {w : WriteJob} (hw : s.sys = .write w) (hp : w.phase ≠ .destInFlight) : noDestRead s :=
    noDestRead_of_entriesApart h fun v hv => by rw [hw] at hv; cases hv; exact hp
  rcases placeFreed_cases s with heq | ⟨w, hw, -, ⟨hp, heq⟩ | ⟨hp, heq⟩⟩
  · rw [heq]; exact h
  · have hcourse := courseApart_of_waiting (jobApart_of_entriesApart h hw) (.inl hp)
    have hnone := hread hw (by rw [hp]; decide)
    rw [heq]
    exact entriesApart_stepDestination (s := endStall (setWrite { w with reserved := true } s)) h.1 hnone hcourse
  · have hcourse := courseApart_of_waiting (jobApart_of_entriesApart h hw) (.inr (.inr hp))
    have hnone := hread hw (by rw [hp]; decide)
    rw [heq]
    exact entriesApart_stepCommit (s := endStall (setWrite { w with reserved := true } s)) h.1 hnone hcourse

/-! ### A freed slot and the engine -/

theorem entriesApart_enterPass {s : State} (h : entriesApart s) (hp : s.part = .quiescing) : entriesApart (enterPass s) := by
  have hpass : entriesApart { s with part := .pass } := entriesApart_part h (by rw [hp]; decide) .pass
  unfold enterPass
  dsimp only
  split
  · rename_i w hw
    split
    · rename_i hwait
      refine entriesApart_completePlain (s := endStall (raise .quiesced { s with part := .pass })) hpass.1 ?_ w
      refine noDestRead_of_entriesApart hpass fun v hv => ?_
      have hvw : SysPort.write v = .write w := hv.symm.trans hw
      cases hvw
      rw [hwait]
      decide
    · exact hpass
  · exact hpass
  · exact hpass

theorem entriesApart_slotFreed {s : State} (h : entriesApart s) : entriesApart (slotFreed s) := by
  rcases slotFreed_cases s with heq | ⟨hp, -, heq⟩ | ⟨-, ⟨w, hw, heq⟩ | heq | heq⟩
  · rw [heq]; exact h
  · rw [heq]; exact entriesApart_enterPass h hp
  · obtain ⟨hw, hp⟩ := waitingClose_some hw
    have hcourse := courseApart_of_waiting (jobApart_of_entriesApart h hw) (.inr (.inl hp))
    have hnone : noDestRead s :=
      noDestRead_of_entriesApart h fun v hv => by rw [hw] at hv; cases hv; rw [hp]; decide
    have hview : outer (endStall (closeAndOpen (closeReasonOf w.data) s)) = outer s := by simp
    have hclosed := entriesApart_of_views h (busView_closeAndOpen (closeReasonOf w.data) s) (closeAndOpen_part _ s)
      (outer_closeAndOpen _ s)
    rw [heq]
    refine entriesApart_stepDestination (s := endStall (closeAndOpen (closeReasonOf w.data) s)) hclosed.1
      (noDestRead_congr hnone hview) fun hleft hl => ?_
    rw [cfg_eq_of_outer hview]
    exact ⟨(closeAndOpen_part _ s).trans (hcourse hleft hl).1, (hcourse hleft hl).2⟩
  · rw [heq]
    exact entriesApart_of_views h ((busView_closeAndForce _ _).trans rfl) (closeAndForce_part _ _)
      ((outer_closeAndForce _ _).trans rfl)
  · rw [heq]
    exact entriesApart_of_views h (busView_closeAndForce _ s) (closeAndForce_part _ s) (outer_closeAndForce _ s)

theorem outer_freedState (i : SlotIx) (s : State) : outer (freedState i s) = outer s := by
  simp [freedState]

theorem entriesApart_completeBatch {s : State} (h : entriesApart s) (i : SlotIx) : entriesApart (completeBatch i s) := by
  have hfreed := entriesApart_of_views h (busView_freedState i s) (freedState_part i s) (outer_freedState i s)
  rw [completeBatch_eq]
  exact entriesApart_of_views (entriesApart_slotFreed hfreed) (busView_engineIdle _ _) rfl (outer_engineIdle _ _)

theorem entriesApart_engineTest {s : State} (h : entriesApart s) : entriesApart (engineTest s) := by
  refine engineTest_keeps (P := entriesApart) ?start ?take (fun i s h _ => entriesApart_completeBatch h i) h
  case start =>
    intro i forced s h _
    exact entriesApart_of_views h (busView_startBatch i forced s) (startBatch_part i forced s) (outer_startBatch i forced s)
  case take =>
    intro i e s h _
    exact entriesApart_of_views h (busView_takeEntry i e s) (takeEntry_part i e s) (outer_takeEntry i e s)

theorem entriesApart_nextEntry {s : State} (h : entriesApart s) (i : SlotIx) : entriesApart (nextEntry i s) := by
  unfold nextEntry
  split
  · exact entriesApart_of_views h (busView_takeEntry i _ s) (takeEntry_part i _ s) (outer_takeEntry i _ s)
  · exact entriesApart_engineTest (entriesApart_completeBatch h i)

/-! ### The part stays ENGAGED -/

/-- In ENGAGED a freed slot leaves the part state. -/
theorem slotFreed_part_engaged {s : State} (h : s.part = .engaged) : (slotFreed s).part = .engaged := by
  rcases slotFreed_cases s with heq | ⟨hp, -, -⟩ | ⟨-, ⟨w, -, heq⟩ | heq | heq⟩
  · rw [heq]; exact h
  · rw [h] at hp; cases hp
  · have hview := batchView_stepDestination w (endStall (closeAndOpen (closeReasonOf w.data) s))
    rw [heq]
    exact (batchView_fields hview).1.trans ((closeAndOpen_part _ s).trans h)
  · rw [heq]; exact (closeAndForce_part _ _).trans h
  · rw [heq]; exact (closeAndForce_part _ s).trans h

theorem completeBatch_part_engaged {s : State} (h : s.part = .engaged) (i : SlotIx) :
    (completeBatch i s).part = .engaged := by
  rw [completeBatch_eq]
  exact slotFreed_part_engaged ((freedState_part i s).trans h)

theorem engineTest_part_engaged {s : State} (h : s.part = .engaged) : (engineTest s).part = .engaged :=
  engineTest_keeps (P := fun s => s.part = .engaged) (fun i forced s h _ => (startBatch_part i forced s).trans h)
    (fun i e s h _ => (takeEntry_part i e s).trans h) (fun i _ h _ => completeBatch_part_engaged h i) h

/-! ### Acceptance of a write -/

theorem entriesApart_otherMarkEffect {s : State} (h : entriesApart s) (w : WriteJob) :
    entriesApart (otherMarkEffect w s) := by
  unfold otherMarkEffect
  split
  · split
    · exact entriesApart_engineTest
        (entriesApart_of_views h (busView_releaseOldest s) (releaseOldest_part s) (outer_releaseOldest s))
    · exact h
  · exact entriesApart_of_views h (busView_snoopConsumer _ s) (batchView_fields (batchView_snoopConsumer _ s)).1
      (outer_snoopConsumer _ s)
  · exact h
  · exact h

theorem otherMarkEffect_part_engaged {s : State} (h : s.part = .engaged) (w : WriteJob) :
    (otherMarkEffect w s).part = .engaged := by
  unfold otherMarkEffect
  split
  · rw [if_pos h]
    exact engineTest_part_engaged ((releaseOldest_part s).trans h)
  · exact (batchView_fields (batchView_snoopConsumer _ s)).1.trans h
  · exact h
  · exact h

/-- The lanes a write taken holds are held already, or lie in a window (Table 4-1). -/
theorem hold_of_classifiedJob {s : State} {word : WordAddr} {lanes : LaneMask} {data : Word}
    (h : (classifiedJob s word lanes data).lanesToHold ≠ 0#4) :
    ∃ i, (laneWork s word lanes data (heldLanes word s) i).deferrable = true
      ∧ (hasLane (heldLanes word s) i = true ∨ ∃ w, resolve s (bytePosition word i) = some w) := by
  obtain ⟨i, hi⟩ := exists_hasLane h
  obtain ⟨hclass, -⟩ := (hasLane_lanesToHold _ i).mp hi
  have hcls : (classifiedJob s word lanes data).classes.get i = (laneWork s word lanes data (heldLanes word s) i).cls := by
    simp [classifiedJob, classesOf, lanesWork]
  rw [hcls] at hclass
  rcases hclass with hc | hd
  · obtain ⟨hheld, hdef⟩ := held_of_carried hc
    exact ⟨i, hdef, .inl hheld⟩
  · obtain ⟨hres, hdef⟩ := resolved_of_deferred hd
    exact ⟨i, hdef, .inr hres⟩

/-- No write taken holds a lane of a protected word (R38, R16). -/
theorem not_protected_of_classifiedJob {s : State} {word : WordAddr} {lanes : LaneMask} {data : Word}
    (hb : bufferApart s) (ha : windowsApart s) (h : (classifiedJob s word lanes data).lanesToHold ≠ 0#4) :
    word ∉ protectedWords s.cfg := by
  obtain ⟨i, -, hheld | ⟨w, hres⟩⟩ := hold_of_classifiedJob h
  · obtain ⟨e, he, rfl, -⟩ := (hasLane_heldLanes word s i).mp hheld
    exact hb e he
  · exact not_protected_of_resolve ha hres

/-- A write without a deferrable lane holds nothing (R70). -/
theorem lanesToHold_of_not_deferrable {s : State} {word : WordAddr} {lanes : LaneMask} {data : Word}
    (h : anyDeferrable (lanesWork s word lanes data) ≠ true) : (classifiedJob s word lanes data).lanesToHold = 0#4 := by
  by_contra hl
  obtain ⟨i, hdef, -⟩ := hold_of_classifiedJob hl
  refine h ?_
  have hget : ((lanesWork s word lanes data).get i).deferrable = true := by simpa [lanesWork] using hdef
  unfold anyDeferrable
  match i with
  | 0 => simp_all [Four.get]
  | 1 => simp_all [Four.get]
  | 2 => simp_all [Four.get]
  | 3 => simp_all [Four.get]

theorem entriesApart_acceptEngaged {s : State} {w : WriteJob} (h : entriesApart s) (hidle : s.sys = .idle)
    (hp : s.part = .engaged) (hw : w.lanesToHold ≠ 0#4 → w.word ∉ protectedWords s.cfg) :
    entriesApart (acceptEngaged w s) := by
  have hnone := noDestRead_of_idle h hidle
  have hjob (v : WriteJob) (hword : v.word = w.word) (hl : v.lanesToHold = w.lanesToHold) : jobApart v s := by
    intro hm
    have hhold : v.lanesToHold ≠ 0#4 := by
      unfold WriteJob.mayCommit at hm
      simpa using (Bool.and_eq_true_iff.mp hm).1
    rw [hword]
    rw [hl] at hhold
    exact ⟨hp, hw hhold⟩
  have hgo {t : State} (ht : entriesApart t) (ho : outer t = outer s) (hpt : t.part = .engaged) :
      entriesApart (stepDestination w t) := by
    refine entriesApart_stepDestination ht.1 (noDestRead_congr hnone ho) fun _ hl => ⟨hpt, ?_⟩
    rw [cfg_eq_of_outer ho]
    exact hw hl
  unfold acceptEngaged
  split
  · split
    · exact entriesApart_stepDestination (s := setWrite { w with reserved := true } s) h.1 hnone fun _ hl => ⟨hp, hw hl⟩
    · exact entriesApart_of_views (entriesApart_setWrite h.1 (hjob { w with phase := .waitPlace } rfl rfl) hnone)
        (busView_beginStall _ _) rfl rfl
  · split
    · unfold acceptClose
      split
      · have hclosed := entriesApart_of_views h (busView_closeAndOpen (closeReasonOf w.data) s) (closeAndOpen_part _ s)
          (outer_closeAndOpen _ s)
        exact hgo (entriesApart_engineTest hclosed) ((outer_engineTest _).trans (outer_closeAndOpen _ s))
          (engineTest_part_engaged ((closeAndOpen_part _ s).trans hp))
      · exact entriesApart_of_views (entriesApart_setWrite h.1 (hjob { w with phase := .waitSlot } rfl rfl) hnone)
          (busView_beginStall _ _) rfl rfl
    · exact hgo (entriesApart_otherMarkEffect h w) (outer_otherMarkEffect w s) (otherMarkEffect_part_engaged hp w)

theorem entriesApart_acceptWrite {s : State} (h : entriesApart s) (ha : windowsApart s) (hidle : s.sys = .idle)
    (word : WordAddr) (lanes : LaneMask) (data : Word) : entriesApart (acceptWrite word lanes data s) := by
  have hnone := noDestRead_of_idle h hidle
  unfold acceptWrite
  split
  · exact entriesApart_stepMemory (entriesApart_otherMarkEffect h _).1
      (noDestRead_congr hnone (outer_otherMarkEffect _ s)) _
  · rename_i hp
    exact entriesApart_acceptEngaged h hidle hp (not_protected_of_classifiedJob h.1 ha)
  · unfold acceptQuiescing
    split
    · exact entriesApart_of_views (entriesApart_setWrite h.1 (jobApart_of_phase (.inl rfl) s) hnone)
        (busView_beginStall _ _) rfl rfl
    · rename_i hd
      exact entriesApart_stepDestination (entriesApart_otherMarkEffect h _).1
        (noDestRead_congr hnone (outer_otherMarkEffect _ s))
        fun _ hl => absurd (lanesToHold_of_not_deferrable hd) hl

/-! ### The memory port -/

theorem takeResponse_inFlight (f : InFlight) (failed : Bool) (s : State) : (takeResponse f failed s).inFlight = none := by
  unfold takeResponse
  dsimp only
  split
  · obtain ⟨-, -, -, -, -, -, -, -, hf, -⟩ := outer_fields (outer_reportError f { s with inFlight := none })
    exact hf
  · rfl

theorem noDestRead_takeResponse (f : InFlight) (failed : Bool) (s : State) : noDestRead (takeResponse f failed s) := by
  intro g hg
  rw [takeResponse_inFlight] at hg
  cases hg

theorem entriesApart_takeResponse {s : State} (h : entriesApart s) (f : InFlight) (failed : Bool) :
    entriesApart (takeResponse f failed s) := by
  have hnone : entriesApart { s with inFlight := none } := ⟨h.1, h.2.1, fun g hg => by cases hg⟩
  exact entriesApart_congr hnone (entries_of_busView (busView_takeResponse f failed s))
    (busView_fields (busView_takeResponse f failed s)).2 (batchView_fields (batchView_takeResponse f failed s)).1
    (by rw [takeResponse_cfg]) (takeResponse_inFlight f failed s)

theorem entriesApart_afterDestinationRead {s t : State} {f : InFlight} {w : WriteJob} (h : entriesApart s)
    (hf : inFlightOf .destinationRead s = some f) (hw : s.sys = .write w) (ht : entriesApart t) (hn : noDestRead t)
    (hp : t.part = s.part) (hc : t.cfg = s.cfg) (reply : ReadReply) :
    entriesApart (afterDestinationRead w reply t) := by
  obtain ⟨hf, hk⟩ := inFlightOf_eq_some hf
  obtain ⟨v, hv, hphase⟩ := h.2.2 f hf hk
  rw [hw] at hv
  cases hv
  unfold afterDestinationRead
  split
  · exact entriesApart_stepMemory ht.1 hn _
  · rename_i hplain
    split
    · rename_i d
      refine entriesApart_stepCommit (s := setWrite { w with readData := some d } t) ht.1 hn fun hleft hl => ?_
      have hleft : w.leftEngaged = false := hleft
      have hl : w.lanesToHold ≠ 0#4 := hl
      have hmay : w.mayCommit = true := by simp [WriteJob.mayCommit, hphase, hl, hleft, hplain]
      obtain ⟨hengaged, hword⟩ := jobApart_of_entriesApart h hw hmay
      exact ⟨hp.trans hengaged, show w.word ∉ protectedWords t.cfg by rw [hc]; exact hword⟩
    · exact entriesApart_answerSystem ht.1 hn _

theorem drainRequest_kind {s : State} {q : MemRequest} (h : drainRequest s = some q) :
    q.kind = .drainRead ∨ q.kind = .drainWrite := by
  unfold drainRequest at h
  split at h
  · cases h
  · split at h
    · cases h; exact .inl rfl
    · cases h; exact .inr rfl
    all_goals cases h

theorem recordRequest_kind {s : State} {q : MemRequest} (h : recordRequest s = some q) : q.kind = .recordWrite := by
  unfold recordRequest at h
  split at h
  · cases h; rfl
  · cases h

theorem refreshRequest_kind {s : State} {q : MemRequest} (h : refreshRequest s = some q) : q.kind = .refreshRead := by
  unfold refreshRequest at h
  split at h
  · cases h; rfl
  · cases h
  · cases h

/-- A request of another requester goes in flight. -/
theorem entriesApart_putInFlight {s : State} {q : MemRequest} (h : entriesApart s) (hq : q.kind ≠ .destinationRead)
    (v : Waits) : entriesApart (putInFlight q { s with waits := v }) := by
  refine ⟨h.1, h.2.1, fun f hf hk => ?_⟩
  cases hf
  exact absurd hk hq

theorem entriesApart_grantDrain {s : State} (h : entriesApart s) : entriesApart (grantDrain s) := by
  unfold grantDrain
  split
  · rename_i i e _ _
    split
    · have hview : busView (tornTest i (countDrained i { s with drain.access := .writeInFlight })) = busView s :=
        (busView_tornTest _ _).trans rfl
      have hpart := (tornTest_batch i (countDrained i { s with drain.access := .writeInFlight })).1
      have houter : outer (tornTest i (countDrained i { s with drain.access := .writeInFlight })) = outer s :=
        (outer_tornTest _ _).trans rfl
      exact entriesApart_placeFreed (entriesApart_filter (entriesApart_of_views h hview hpart houter) _)
    · exact h
  · exact h

theorem grantRecord_part (s : State) : (grantRecord s).part = s.part := (batchView_fields (grantRecord_batchView s)).1

/-- A system request goes in flight, a destination read with the write that made it. -/
theorem entriesApart_grantSystem {s : State} {q : MemRequest} (h : entriesApart s) (hq : systemRequest s = some q)
    (v : Waits) : entriesApart (grantSystem (putInFlight q { s with waits := v })) := by
  unfold grantSystem
  cases hs : s.sys with
  | idle => simp [systemRequest, hs] at hq
  | read r =>
    have hkind : q.kind ≠ .destinationRead := by
      unfold systemRequest at hq
      rw [hs] at hq
      dsimp only at hq
      split at hq
      · cases hq
      · cases hq; exact ReqKind.noConfusion
    simp only [putInFlight_fields]
    refine ⟨h.1, fun _ hw => SysPort.noConfusion hw, fun f hf hk => ?_⟩
    cases hf
    exact absurd hk hkind
  | write w =>
    have hjob := jobApart_of_entriesApart h hs
    simp only [putInFlight_fields]
    cases hp : w.phase <;> simp only [systemRequest, hs, hp, reduceCtorEq] at hq
    case destRequested =>
      refine ⟨h.1, fun x hx hm => ?_, fun f _ _ => ⟨_, rfl, rfl⟩⟩
      cases hx
      refine hjob ?_
      simpa [WriteJob.mayCommit, WriteJob.lanesToHold, WriteJob.heldClassLanes, hp] using hm
    case writeRequested =>
      cases hq
      refine ⟨h.1, fun x hx => ?_, fun f hf hk => ?_⟩
      · cases hx
        exact jobApart_of_phase (.inr (.inr rfl)) _
      · cases hf
        cases hk

theorem entriesApart_grantTo {s : State} (h : entriesApart s) (r : Requester) : entriesApart (grantTo r s) := by
  rcases grantTo_cases r s with heq | ⟨q, ⟨-, hq, heq⟩ | ⟨-, hq, heq⟩ | ⟨-, hq, heq⟩ | ⟨-, hq, heq⟩⟩
  · rw [heq]; exact h
  · have hkind : q.kind ≠ .destinationRead := by rw [refreshRequest_kind hq]; decide
    rw [heq]; exact entriesApart_putInFlight h hkind _
  · have hkind : q.kind ≠ .destinationRead := by rw [recordRequest_kind hq]; decide
    rw [heq]
    exact entriesApart_of_views (entriesApart_putInFlight h hkind _) (busView_grantRecord _) (grantRecord_part _)
      (outer_grantRecord _)
  · have hkind : q.kind ≠ .destinationRead := by rcases drainRequest_kind hq with hk | hk <;> rw [hk] <;> decide
    rw [heq]; exact entriesApart_grantDrain (entriesApart_putInFlight h hkind _)
  · rw [heq]; exact entriesApart_grantSystem h hq _

theorem entriesApart_afterDrainRead {s : State} (h : entriesApart s) (i : SlotIx) (e : Entry) (reply : ReadReply) :
    entriesApart (afterDrainRead i e reply s) := by
  cases reply with
  | ok d => exact h
  | error =>
    have hcounted : entriesApart (countDrained i (drainError i s)) := h
    exact entriesApart_nextEntry (entriesApart_placeFreed (entriesApart_filter hcounted _)) i

theorem entriesApart_afterDrainWrite {s : State} (h : entriesApart s) (i : SlotIx) (reply : WriteReply) :
    entriesApart (afterDrainWrite i reply s) := by
  cases reply with
  | ok => exact entriesApart_nextEntry h i
  | error => exact entriesApart_nextEntry (s := drainError i s) h i

theorem outer_afterRecordWrite (s : State) : outer (afterRecordWrite s) = outer s := by
  unfold afterRecordWrite
  split
  · split
    · rfl
    · exact (outer_testWriter _).trans rfl
  · rfl
  · rfl

/-! ### The commands -/

theorem entriesApart_cmdEngage {s : State} (h : entriesApart s) : entriesApart (cmdEngage s).next := by
  unfold cmdEngage
  split
  · exact h
  · rename_i hp
    have hengaged := entriesApart_part h (by rw [not_not.mp hp]; decide) .engaged
    split
    · exact h
    · split
      · exact h
      · exact entriesApart_of_views hengaged (busView_openBatch 0 _) rfl (outer_openBatch 0 _)

theorem stallToPass_fields (s : State) : busView (stallToPass s) = busView s ∧ (stallToPass s).part = s.part
    ∧ outer (stallToPass s) = outer s := ⟨busView_stallToPass s, (stallToPass_slots s).1, outer_stallToPass s⟩

/-- After DISENGAGE no write may commit: one that waits for a place or a slot no longer does, and one in its destination
read is marked (R71, R122). -/
theorem entriesApart_disengageWrite {s : State} (hb : bufferApart s) (hread : readApart s) :
    entriesApart (disengageWrite s) := by
  have hnone {w : WriteJob} (hw : s.sys = .write w) (hp : w.phase ≠ .destInFlight) : noDestRead s := by
    intro f hf hk
    obtain ⟨v, hv, hphase⟩ := hread f hf hk
    rw [hw] at hv
    cases hv
    exact hp hphase
  have hother (hno : ∀ w, s.sys ≠ .write w) : entriesApart s := ⟨hb, fun w hw => absurd hw (hno w), hread⟩
  have hstays {w : WriteJob} (hw : s.sys = .write w) (hj : jobApart w s) : entriesApart s :=
    ⟨hb, fun v hv => by rw [hw] at hv; cases hv; exact hj, hread⟩
  unfold disengageWrite
  split
  · rename_i w hw
    split
    · rename_i hp
      obtain ⟨hbus, hpart, houter⟩ := stallToPass_fields (setWrite { w with phase := .waitPass } s)
      exact entriesApart_of_views (entriesApart_setWrite hb (jobApart_of_phase (.inl rfl) s)
        (hnone hw (by rw [hp]; decide))) hbus hpart houter
    · rename_i hp
      obtain ⟨hbus, hpart, houter⟩ := stallToPass_fields (setWrite { w with phase := .waitPass, readData := none } s)
      exact entriesApart_of_views (entriesApart_setWrite hb (jobApart_of_phase (.inl rfl) s)
        (hnone hw (by rw [hp]; decide))) hbus hpart houter
    · rename_i hp
      exact entriesApart_stepMemory (s := endStall s) hb (hnone hw (by rw [hp]; decide)) w
    · rename_i hp
      refine entriesApart_setWrite hb (fun hm => ?_) (hnone hw (by rw [hp]; decide))
      simp [WriteJob.mayCommit, hp] at hm
    · rename_i hp
      refine ⟨hb, fun v hv hm => ?_, fun _ _ _ => ⟨_, rfl, hp⟩⟩
      cases hv
      simp [WriteJob.mayCommit, hp] at hm
    · rename_i hp
      exact hstays hw (jobApart_of_phase (.inl hp) s)
    · rename_i hp
      exact hstays hw (jobApart_of_phase (.inr (.inl hp)) s)
    · rename_i hp
      exact hstays hw (jobApart_of_phase (.inr (.inr hp)) s)
  · rename_i r hr
    exact hother fun w hw => SysPort.noConfusion (hr.symm.trans hw)
  · rename_i hidle
    exact hother fun w hw => SysPort.noConfusion (hidle.symm.trans hw)

theorem entriesApart_cmdDisengage {s : State} (h : entriesApart s) : entriesApart (cmdDisengage s).next := by
  unfold cmdDisengage
  split
  · exact h
  · obtain ⟨hb, -, hread⟩ := (entriesApart_iff s).mp h
    have hview := busView_disengageBatches { s with part := .quiescing, batch.pendingClose := false }
    obtain ⟨-, -, hcfg, -, -, -, -, -, hfl, -⟩ :=
      outer_fields (outer_disengageBatches { s with part := .quiescing, batch.pendingClose := false })
    exact entriesApart_engineTest (entriesApart_disengageWrite (bufferApart_congr hb (entries_of_busView hview) hcfg)
      (readApart_congr hread (busView_fields hview).2 hfl))

theorem entriesApart_cmdDiscard {s : State} (h : entriesApart s) : entriesApart (cmdDiscard s).next := by
  unfold cmdDiscard
  split
  · exact h
  · show entriesApart (discardOpen s)
    unfold discardOpen
    split
    · exact h
    · split
      · exact entriesApart_placeFreed (entriesApart_filter h _)
      · exact h

theorem entriesApart_cmdFlush {s : State} (h : entriesApart s) : entriesApart (cmdFlush s).next := by
  unfold cmdFlush
  split
  · exact h
  · exact entriesApart_engineTest
      (entriesApart_of_views h (busView_flushEngaged s) (flushEngaged_slots s).1 (outer_flushEngaged s))
  · exact entriesApart_engineTest
      (entriesApart_of_views h (busView_extendHorizonTo _ s) (extendHorizonTo_part _ s) (outer_extendHorizonTo _ s))

/-- In PASS nothing is held and no write may commit, so any word may become protected. -/
theorem entriesApart_configured {s t : State} (h : entriesApart s) (hpl : entriesPlaced s) (hp : s.part = .pass)
    (hb : busView t = busView s) (hf : t.inFlight = s.inFlight) : entriesApart t := by
  obtain ⟨-, hjob, hread⟩ := h
  obtain ⟨-, hempty⟩ := hpl
  have hnone := (entries_of_busView hb).trans (hempty hp)
  obtain ⟨-, hsys⟩ := busView_fields hb
  refine ⟨fun e he => ?_, fun w hw hm => ?_, ?_⟩
  · rw [hnone] at he
    cases he
  · obtain ⟨hengaged, -⟩ := hjob w (hsys ▸ hw) hm
    rw [hp] at hengaged
    cases hengaged
  · rw [hf, hsys]
    exact hread

/-- A command that neither moves a batch nor changes what is protected. -/
theorem runCommand_apart {c : SetupCommand} (he : c ≠ .engage) (hd : c ≠ .disengage) (hx : c ≠ .discard) (hf : c ≠ .flush)
    (hm : ∀ a b k, c ≠ .marks a b k) (hr : ∀ b z, c ≠ .ring b z) (s : State) :
    (runCommand c s).next.buf.entries = s.buf.entries ∧ (runCommand c s).next.sys = s.sys
      ∧ (runCommand c s).next.part = s.part ∧ protectedWords (runCommand c s).next.cfg = protectedWords s.cfg
      ∧ (runCommand c s).next.inFlight = s.inFlight := by
  cases c with
  | engage => exact absurd rfl he
  | disengage => exact absurd rfl hd
  | discard => exact absurd rfl hx
  | flush => exact absurd rfl hf
  | marks a b k => exact absurd rfl (hm a b k)
  | ring b z => exact absurd rfl (hr b z)
  | winWrite p => dsimp only [runCommand, cmdWinWrite]; (repeat' split) <;> exact ⟨rfl, rfl, rfl, rfl, rfl⟩
  | winRead i => dsimp only [runCommand, cmdWinRead]; (repeat' split) <;> exact ⟨rfl, rfl, rfl, rfl, rfl⟩
  | winEnable i => dsimp only [runCommand, cmdWinEnable]; (repeat' split) <;> exact ⟨rfl, rfl, rfl, rfl, rfl⟩
  | winDisable i => dsimp only [runCommand, cmdWinDisable]; (repeat' split) <;> exact ⟨rfl, rfl, rfl, rfl, rfl⟩
  | sync v => dsimp only [runCommand, cmdSync]; (repeat' split) <;> exact ⟨rfl, rfl, rfl, rfl, rfl⟩
  | arbitration v => dsimp only [runCommand, cmdArbitration]; (repeat' split) <;> exact ⟨rfl, rfl, rfl, rfl, rfl⟩
  | tick v => dsimp only [runCommand, cmdTick]; (repeat' split) <;> exact ⟨rfl, rfl, rfl, rfl, rfl⟩
  | counters o => dsimp only [runCommand, cmdCounters]; (repeat' split) <;> exact ⟨rfl, rfl, rfl, rfl, rfl⟩
  | _ => exact ⟨rfl, rfl, rfl, rfl, rfl⟩

theorem entriesApart_cmdMarks {s : State} (h : entriesApart s) (hpl : entriesPlaced s) (a b k : WordAddr) :
    entriesApart (cmdMarks a b k s).next := by
  unfold cmdMarks
  split
  · exact h
  · rename_i hp
    have hp := not_not.mp hp
    (repeat' split) <;> exact entriesApart_configured h hpl hp rfl rfl

theorem entriesApart_cmdRing {s : State} (h : entriesApart s) (hpl : entriesPlaced s) (base : WordAddr) (z : Byte) :
    entriesApart (cmdRing base z s).next := by
  unfold cmdRing
  split
  · exact h
  · rename_i hp
    have hp := not_not.mp hp
    (repeat' split) <;> exact entriesApart_configured h hpl hp rfl rfl

theorem entriesApart_runCommand {s : State} (h : entriesApart s) (hpl : entriesPlaced s) (c : SetupCommand) :
    entriesApart (runCommand c s).next := by
  by_cases hown : c = .engage ∨ c = .disengage ∨ c = .discard ∨ c = .flush ∨ (∃ a b k, c = .marks a b k)
      ∨ ∃ b z, c = .ring b z
  · rcases hown with rfl | rfl | rfl | rfl | ⟨a, b, k, rfl⟩ | ⟨b, z, rfl⟩
    · exact entriesApart_cmdEngage h
    · exact entriesApart_cmdDisengage h
    · exact entriesApart_cmdDiscard h
    · exact entriesApart_cmdFlush h
    · exact entriesApart_cmdMarks h hpl a b k
    · exact entriesApart_cmdRing h hpl b z
  · simp only [not_or, not_exists] at hown
    obtain ⟨he, hd, hx, hf, hm, hr⟩ := hown
    obtain ⟨hentries, hsys, hpart, hprot, hfl⟩ := runCommand_apart he hd hx hf hm hr s
    exact entriesApart_congr h hentries hsys hpart hprot hfl

/-! ### The resets -/

theorem afterReset_phase {w : WriteJob} (h : w.phase = .destInFlight) : w.afterReset.phase = .destInFlight := by
  simp [WriteJob.afterReset, WriteJob.asPlain, h]

theorem afterReset_mayCommit (w : WriteJob) : w.afterReset.mayCommit = false := by
  unfold WriteJob.afterReset WriteJob.mayCommit
  cases hp : w.phase <;> simp [WriteJob.asPlain, hp]

theorem entriesApart_cleared {s t : State} (h : entriesApart s) (he : t.buf.entries = []) (hs : t.sys = s.sys.afterReset)
    (hf : t.inFlight = s.inFlight.map fun f => { f with cutOff := true }) : entriesApart t := by
  obtain ⟨-, -, hread⟩ := h
  refine ⟨fun e hmem => ?_, fun v hv hm => ?_, fun f hfl hk => ?_⟩
  · rw [he] at hmem
    cases hmem
  · rw [hs] at hv
    cases hsys : s.sys with
    | idle => rw [hsys] at hv; cases hv
    | read r => rw [hsys] at hv; cases hv
    | write w =>
      rw [hsys] at hv
      cases hv
      rw [afterReset_mayCommit] at hm
      cases hm
  · rw [hf] at hfl
    obtain ⟨g, hg, rfl⟩ := Option.map_eq_some_iff.mp hfl
    obtain ⟨w, hw, hp⟩ := hread g hg hk
    exact ⟨w.afterReset, by rw [hs, hw]; rfl, afterReset_phase hp⟩

theorem outer_softReset (s : State) : outer (softReset s) = outer (clearRuntime s.cfg s) := by
  unfold softReset
  dsimp only
  split
  · exact outer_snoopConsumer _ _
  · rfl

theorem entriesApart_softReset {s : State} (h : entriesApart s) : entriesApart (softReset s) := by
  have hcleared : entriesApart (clearRuntime s.cfg s) := entriesApart_cleared h rfl rfl rfl
  exact entriesApart_of_views hcleared (softReset_busView s) (batchView_fields (softReset_batchView s)).1 (outer_softReset s)

theorem entriesApart_effect {c : Instr} {s t : State} (h : entriesApart s) (hpl : entriesPlaced s) (ha : windowsApart s)
    (he : Effect c s t) : entriesApart t := by
  have hanswered (f : InFlight) (failed : Bool) : entriesApart (takeResponse f failed s) :=
    entriesApart_takeResponse h f failed
  have hnone (f : InFlight) (failed : Bool) : noDestRead (takeResponse f failed s) := noDestRead_takeResponse f failed s
  cases he with
  | ran hcmd => exact entriesApart_congr (entriesApart_runCommand h hpl _) rfl rfl rfl rfl rfl
  | softReset p hp => exact entriesApart_softReset (s := { s with setup := p }) h
  | pinReset p => exact entriesApart_cleared h rfl rfl rfl
  | expiry hd =>
    refine entriesApart_engineTest (entriesApart_of_views h ?_ (forceFor_slots _ _).1 ?_)
    · exact (busView_forceFor _ _).trans rfl
    · exact (outer_forceFor _ _).trans rfl
  | blankStart hc high =>
    refine entriesApart_engineTest (entriesApart_congr h ?_ ?_ (extendDrainSet_batch _).1 ?_ ?_)
    · exact (entries_of_busView (busView_extendDrainSet _)).trans rfl
    · exact (busView_fields (busView_extendDrainSet _)).2.trans rfl
    · rw [cfg_eq_of_outer (outer_extendDrainSet _)]; rfl
    · obtain ⟨-, -, -, -, -, -, -, -, hf, -⟩ := outer_fields (outer_extendDrainSet
        (modCounters Counters.addFrame { s with blank := _, sync.blanking := _, sync.frameCounter := _ }))
      exact hf
  | systemAnswered hc hi a => exact entriesApart_answerSystem h.1 (noDestRead_of_idle h hi) a
  | readTaken word lanes hi r =>
    exact ⟨h.1, fun _ hw => SysPort.noConfusion hw, fun f hf hk => absurd hk (noDestRead_of_idle h hi f hf)⟩
  | writeTaken word data hi hl => exact entriesApart_acceptWrite (s := { s with sysAnswer := none }) h ha hi _ _ _
  | granted hf hr => exact entriesApart_grantTo h _
  | systemReadAnswered hf hr reply => exact entriesApart_answerSystem (hanswered _ _).1 (hnone _ _) _
  | destinationReadAnswered hf hw reply =>
    exact entriesApart_afterDestinationRead h hf hw (hanswered _ _) (hnone _ _)
      (batchView_fields (batchView_takeResponse _ _ s)).1 (takeResponse_cfg _ _ s) reply
  | immediateWriteAnswered hf hw reply => exact entriesApart_answerSystem (hanswered _ _).1 (hnone _ _) _
  | refreshReadAnswered hf reply => exact entriesApart_congr (hanswered _ _) rfl rfl rfl rfl rfl
  | discarded failed hc hf => exact hanswered _ _
  | drainReadAnswered hf hi he reply => exact entriesApart_afterDrainRead (hanswered _ _) _ _ reply
  | drainWriteAnswered hf hi reply => exact entriesApart_afterDrainWrite (hanswered _ _) _ reply
  | recordWriteAnswered hf reply =>
    exact entriesApart_of_views (hanswered _ _) (busView_afterRecordWrite _)
      (batchView_fields (afterRecordWrite_batchView _)).1 (outer_afterRecordWrite _)
  | _ => exact h

/-- Settles O9: a commit makes an entry only at a word of a window or one held already, DISENGAGE and the resets end every
commit, and MARKS and RING run in PASS, where the buffer is empty. -/
theorem stepKeepsEntriesApart : Obligations.StepKeepsEntriesApart := by
  intro s t h hpl _ ha hstep
  unfold step at hstep
  split at hstep
  · cases hstep
    exact h
  · rename_i c rest _
    exact entriesApart_effect (s := { s with pending := rest }) h hpl ha (exec_effect hstep)

end Sys2Proof.Machine
end

section
/-! PROOFS. The drain engine's test (6.2): every pass that completes a batch takes one from a count that starts at most at
seven, four batches and three closes that wait for a slot, so the test ends with nothing left to start. -/

namespace Sys2Proof.Machine

/-! ### The count -/

/-- Whether a slot holds a closed batch, as a number. -/
def busyCount (i : SlotIx) (s : State) : Nat :=
  match slotState i s with
  | .free | .opened => 0
  | .closed | .held | .draining => 1

/-- How many slots hold a closed batch. -/
def busySlots (s : State) : Nat := busyCount 0 s + busyCount 1 s + busyCount 2 s + busyCount 3 s

/-- How many closes wait for a slot: a close store, FLUSH's pending close and an owed force-close. -/
def closesDue (s : State) : Nat :=
  (waitingClose s).isSome.toNat + s.batch.pendingClose.toNat + s.stall.forceCloseOwed.toNat

/-- How many batches the engine can still come to complete in one test. -/
def engineWork (s : State) : Nat := busySlots s + closesDue s

theorem busyCount_le (i : SlotIx) (s : State) : busyCount i s ≤ 1 := by
  unfold busyCount
  split <;> omega

theorem engineWork_le (s : State) : engineWork s ≤ 7 := by
  have h0 := busyCount_le 0 s
  have h1 := busyCount_le 1 s
  have h2 := busyCount_le 2 s
  have h3 := busyCount_le 3 s
  have hw := Bool.toNat_le (waitingClose s).isSome
  have hp := Bool.toNat_le s.batch.pendingClose
  have ho := Bool.toNat_le s.stall.forceCloseOwed
  unfold engineWork busySlots closesDue
  omega

theorem busyCount_congr {s t : State} {i : SlotIx} (h : slotState i t = slotState i s) : busyCount i t = busyCount i s := by
  unfold busyCount
  rw [h]

theorem busySlots_congr {s t : State} (h : ∀ i, slotState i t = slotState i s) : busySlots t = busySlots s := by
  simp only [busySlots, busyCount_congr (h _)]

/-- One slot alone changes the number. -/
theorem busySlots_of_one {s t : State} {i : SlotIx} (h : ∀ k, k ≠ i → busyCount k t = busyCount k s) :
    busySlots t + busyCount i s = busySlots s + busyCount i t := by
  unfold busySlots
  match i with
  | 0 =>
    rw [h 1 (by decide), h 2 (by decide), h 3 (by decide)]
    omega
  | 1 =>
    rw [h 0 (by decide), h 2 (by decide), h 3 (by decide)]
    omega
  | 2 =>
    rw [h 0 (by decide), h 1 (by decide), h 3 (by decide)]
    omega
  | 3 =>
    rw [h 0 (by decide), h 1 (by decide), h 2 (by decide)]
    omega

theorem busyCount_pos {s : State} {i : SlotIx} (h : slotState i s = .closed ∨ slotState i s = .held) : busyCount i s = 1 := by
  unfold busyCount
  rcases h with h | h <;> rw [h]

/-- A close that opens another batch makes one more closed batch. -/
theorem busySlots_close_open {r : CloseReason} {s : State} {i j : SlotIx} (hi : openSlot s = some i)
    (hj : freeSlot s = some j) : busySlots (openBatch j (closeSlot r i s)) = busySlots s + 1 := by
  have hopen := openSlot_some hi
  have hfree := freeSlot_some hj
  obtain ⟨hclosed, hopened, hrest⟩ := slotState_close_open (r := r) hopen hfree
  have hone : ∀ k, k ≠ i → busyCount k (openBatch j (closeSlot r i s)) = busyCount k s := by
    intro k hki
    rcases eq_or_ne k j with rfl | hkj
    · simp only [busyCount, hopened, hfree]
    · exact busyCount_congr (hrest k hki hkj)
  have hsum := busySlots_of_one hone
  have hbefore : busyCount i s = 0 := by simp only [busyCount, hopen]
  rw [busyCount_pos hclosed, hbefore] at hsum
  exact hsum

theorem busySlots_closeAndOpen_le (r : CloseReason) (s : State) : busySlots (closeAndOpen r s) ≤ busySlots s + 1 := by
  rcases closeAndOpen_cases r s with heq | ⟨i, j, hi, hj, heq⟩
  · rw [heq]; exact Nat.le_succ _
  · rw [heq, busySlots_close_open hi hj]

/-! ### A write that goes on waits for no slot -/

/-- Neither a close store nor a force-close waits. -/
def noneWaits (s : State) : Prop := waitingClose s = none ∧ s.stall.forceCloseOwed = false

theorem snoopConsumer_stall (n : Half) (s : State) : (snoopConsumer n s).stall = s.stall := by
  unfold snoopConsumer
  split
  · unfold testWriter
    split <;> rfl
  · rfl

theorem waitingClose_congr {s t : State} (h : s.sys = t.sys) : waitingClose s = waitingClose t := by
  unfold waitingClose
  rw [h]

theorem noneWaits_stepMemory {s : State} (h : s.stall.forceCloseOwed = false) (w : WriteJob) : noneWaits (stepMemory w s) := by
  unfold stepMemory
  split
  · exact ⟨rfl, h⟩
  · exact ⟨rfl, h⟩

theorem noneWaits_completePlain {s : State} (h : s.stall.forceCloseOwed = false) (w : WriteJob) :
    noneWaits (completePlain w s) := by
  unfold completePlain
  dsimp only
  split
  · refine ⟨(waitingClose_congr (busView_fields (busView_snoopConsumer _ _)).2).trans rfl, ?_⟩
    rw [snoopConsumer_stall]
    exact h
  · exact ⟨rfl, h⟩

theorem noneWaits_commit {s : State} (h : s.stall.forceCloseOwed = false) (w : WriteJob) : noneWaits (commit w s) := by
  rcases commit_cases w s with ⟨-, heq⟩ | ⟨i, -, ⟨e, -, heq⟩ | ⟨-, -, heq⟩ | ⟨-, -, -, heq⟩⟩
  · rw [heq]
    unfold commitWithoutSlot
    split
    · exact ⟨rfl, rfl⟩
    · exact noneWaits_completePlain h w
  · rw [heq]; exact noneWaits_stepMemory (s := composeEntry _ _ _ _ s) h _
  · rw [heq]; exact noneWaits_stepMemory (s := addEntry _ s) h _
  · rw [heq]; exact ⟨rfl, rfl⟩

theorem noneWaits_stepDestination {s : State} (h : s.stall.forceCloseOwed = false) (w : WriteJob) :
    noneWaits (stepDestination w s) := by
  unfold stepDestination
  split
  · exact ⟨rfl, h⟩
  · unfold stepCommit
    split
    · exact noneWaits_stepMemory h w
    · exact noneWaits_commit h w

theorem closesDue_of_noneWaits {s : State} (h : noneWaits s) : closesDue s = s.batch.pendingClose.toNat := by
  obtain ⟨hw, ho⟩ := h
  simp [closesDue, hw, ho]

/-! ### One pass of the test -/

theorem closeAndOpen_pendingClose (r : CloseReason) (s : State) :
    (closeAndOpen r s).batch.pendingClose = s.batch.pendingClose := by
  rcases closeAndOpen_cases r s with heq | ⟨i, j, -, -, heq⟩
  · rw [heq]
  · rw [heq]; rfl

theorem extendHorizon_batch (q : Half) (s : State) : (extendHorizon q s).batch = s.batch := by
  unfold extendHorizon
  split <;> rfl

theorem closeAndForce_pendingClose (r : CloseReason) (s : State) :
    (closeAndForce r s).batch.pendingClose = s.batch.pendingClose := by
  rcases closeAndForce_cases r s with heq | ⟨i, j, -, -, heq⟩
  · rw [heq]
  · rw [heq]
    have hbatch := extendHorizon_batch (slotOf i s).sequence (openBatch j (closeSlot r i s))
    exact (congrArg BatchQueue.pendingClose hbatch).trans rfl

/-- A forcing close makes one more closed batch and leaves no force-close owed, or changes nothing. -/
theorem closeAndForce_work (r : CloseReason) (s : State) :
    closeAndForce r s = s
      ∨ busySlots (closeAndForce r s) = busySlots s + 1 ∧ (closeAndForce r s).stall.forceCloseOwed = false := by
  rcases closeAndForce_cases r s with heq | ⟨i, j, hi, hj, heq⟩
  · exact .inl heq
  · refine .inr ⟨?_, by rw [heq]⟩
    rw [heq, ← busySlots_close_open (r := r) hi hj]
    exact busySlots_congr fun k => extendHorizon_slotState _ k _

theorem closeAndForce_waitingClose (r : CloseReason) (s : State) : waitingClose (closeAndForce r s) = waitingClose s :=
  waitingClose_congr (busView_fields (busView_closeAndForce r s)).2

/-- The part enters PASS, and a write that waits for PASS is completed as plain (R171, R70). -/
theorem enterPass_cases (s : State) :
    (∃ w, s.sys = .write w ∧ w.phase = .waitPass
        ∧ enterPass s = completePlain w (endStall (raise .quiesced { s with part := .pass })))
      ∨ enterPass s = raise .quiesced { s with part := .pass } := by
  unfold enterPass
  dsimp only
  split
  · rename_i w hw
    split
    · rename_i hp
      exact .inl ⟨w, hw, hp, rfl⟩
    · exact .inr rfl
  · exact .inr rfl
  · exact .inr rfl

theorem engineWork_enterPass_le (s : State) : engineWork (enterPass s) ≤ engineWork s := by
  obtain ⟨-, hbatch, -⟩ := batchView_fields (enterPass_batchView s)
  have hbusy : busySlots (enterPass s) = busySlots s := busySlots_congr (slotState_congr hbatch)
  have hpend : (enterPass s).batch.pendingClose = s.batch.pendingClose := congrArg BatchQueue.pendingClose hbatch
  have hdue : closesDue (enterPass s) ≤ closesDue s := by
    rcases enterPass_cases s with ⟨w, -, -, heq⟩ | heq
    · have hnone := noneWaits_completePlain (s := endStall (raise .quiesced { s with part := .pass })) rfl w
      rw [← heq] at hnone
      rw [closesDue_of_noneWaits hnone, hpend]
      unfold closesDue
      omega
    · rw [heq]
      exact le_refl _
  unfold engineWork
  omega

theorem engineWork_takeWaitingClose_le {s : State} {w : WriteJob} (h : waitingClose s = some w) :
    engineWork (takeWaitingClose w s) ≤ engineWork s := by
  have hview := batchView_stepDestination w (endStall (closeAndOpen (closeReasonOf w.data) s))
  obtain ⟨-, hbatch, -⟩ := batchView_fields hview
  have hbusy : busySlots (takeWaitingClose w s) = busySlots (closeAndOpen (closeReasonOf w.data) s) :=
    busySlots_congr (slotState_congr hbatch)
  have hpend : (takeWaitingClose w s).batch.pendingClose = s.batch.pendingClose :=
    (congrArg BatchQueue.pendingClose hbatch).trans (closeAndOpen_pendingClose _ s)
  have hdue : closesDue (takeWaitingClose w s) = s.batch.pendingClose.toNat := by
    have hnone : noneWaits (takeWaitingClose w s) :=
      noneWaits_stepDestination (s := endStall (closeAndOpen (closeReasonOf w.data) s)) rfl w
    rw [closesDue_of_noneWaits hnone, hpend]
  have hle := busySlots_closeAndOpen_le (closeReasonOf w.data) s
  unfold engineWork
  rw [hbusy, hdue]
  simp only [closesDue, h, Option.isSome_some, Bool.toNat_true]
  omega

/-- A freed slot that goes to a close that waits leaves one close less to wait. -/
theorem engineWork_slotFreed_le (s : State) : engineWork (slotFreed s) ≤ engineWork s := by
  unfold slotFreed
  split
  · split
    · exact engineWork_enterPass_le s
    · exact le_refl _
  · split
    · rename_i w hw
      exact engineWork_takeWaitingClose_le hw
    · split
      · rename_i hp
        have hpend := closeAndForce_pendingClose .command { s with batch.pendingClose := false }
        have hwait := closeAndForce_waitingClose .command { s with batch.pendingClose := false }
        have hwait' : waitingClose { s with batch.pendingClose := false } = waitingClose s := rfl
        have hbusy' : busySlots { s with batch.pendingClose := false } = busySlots s := rfl
        rcases closeAndForce_work .command { s with batch.pendingClose := false } with heq | ⟨hbusy, howed⟩
        · rw [heq]
          simp [engineWork, closesDue, hwait', hbusy', hp]
        · simp [engineWork, closesDue, hbusy, howed, hpend, hwait, hwait', hbusy', hp]
          omega
      · split
        · rename_i hdue
          have hpend := closeAndForce_pendingClose .force s
          have hwait := closeAndForce_waitingClose .force s
          have howes : s.stall.forceCloseOwed = true := by
            simp only [forceCloseDue, Bool.and_eq_true] at hdue
            exact hdue.1.1.2
          rcases closeAndForce_work .force s with heq | ⟨hbusy, howed⟩
          · rw [heq]
          · simp [engineWork, closesDue, hbusy, howed, hpend, hwait, howes]
            omega
        · exact le_refl _
  · exact le_refl _

theorem pushRecord_stall (r : Rec) (s : State) : (pushRecord r s).stall = s.stall := by
  unfold pushRecord
  split
  · unfold testWriter
    split <;> rfl
  · rfl

theorem closesDue_congr {s t : State} (hs : t.sys = s.sys) (hp : t.batch.pendingClose = s.batch.pendingClose)
    (ho : t.stall = s.stall) : closesDue t = closesDue s := by
  unfold closesDue
  rw [waitingClose_congr hs, hp, ho]

theorem closesDue_freedState (i : SlotIx) (s : State) : closesDue (freedState i s) = closesDue s := by
  refine closesDue_congr (busView_fields (busView_freedState i s)).2 ?_ ?_
  · have hview := batchView_pushRecord (slotOf i (modSlot i (fun b => { b with drainTime := s.drain.ticks }) s)).toRec
      (modSlot i (fun b => { b with drainTime := s.drain.ticks }) s)
    obtain ⟨-, hbatch, -⟩ := batchView_fields hview
    exact (congrArg BatchQueue.pendingClose hbatch).trans rfl
  · exact (pushRecord_stall _ _).trans rfl

/-- A batch that completes is one the less. -/
theorem engineWork_completeBatch {s : State} {i : SlotIx} (h : slotState i s = .draining) :
    engineWork (completeBatch i s) < engineWork s := by
  have hfreed : busySlots (freedState i s) + 1 = busySlots s := by
    have hone : ∀ k, k ≠ i → busyCount k (freedState i s) = busyCount k s := by
      intro k hk
      refine busyCount_congr ?_
      rw [freedState_slotState, if_neg hk]
    have hsum := busySlots_of_one hone
    have hbefore : busyCount i s = 1 := by simp only [busyCount, h]
    have hafter : busyCount i (freedState i s) = 0 := by simp only [busyCount, freedState_slotState, if_true]
    rw [hbefore, hafter] at hsum
    exact hsum
  have hdue := closesDue_freedState i s
  have hle := engineWork_slotFreed_le (freedState i s)
  have hidle : engineWork (completeBatch i s) = engineWork (slotFreed (freedState i s)) := by
    rw [completeBatch_eq]
    rfl
  rw [hidle]
  unfold engineWork at hle ⊢
  omega

theorem engineWork_startBatch {s : State} {i : SlotIx} {forced : Bool} (h : startChoice s = some (i, forced)) :
    engineWork (startBatch i forced s) = engineWork s ∧ 0 < engineWork s := by
  obtain ⟨-, hi⟩ := startChoice_some h
  have hone : ∀ k, k ≠ i → busyCount k (startBatch i forced s) = busyCount k s := by
    intro k hk
    refine busyCount_congr ?_
    rw [slotState_startBatch, if_neg hk]
  have hsum := busySlots_of_one hone
  have hbefore := busyCount_pos hi
  have hafter : busyCount i (startBatch i forced s) = 1 := by simp only [busyCount, slotState_startBatch, if_true]
  have hdue : closesDue (startBatch i forced s) = closesDue s := by cases forced <;> rfl
  have hpos : busyCount i s ≤ busySlots s := by
    unfold busySlots
    match i with
    | 0 => omega
    | 1 => omega
    | 2 => omega
    | 3 => omega
  unfold engineWork
  omega

/-! ### The whole test -/

theorem startChoice_of_current {s : State} {i : SlotIx} (h : s.drain.current = some i) : startChoice s = none := by
  unfold startChoice
  rw [h]

theorem startChoice_of_noWork {s : State} (h : engineWork s = 0) : startChoice s = none := by
  cases hc : startChoice s with
  | none => rfl
  | some c =>
    obtain ⟨i, forced⟩ := c
    obtain ⟨-, hpos⟩ := engineWork_startBatch hc
    omega

theorem oldestEntry_startBatch (i k : SlotIx) (forced : Bool) (s : State) :
    oldestEntry k (startBatch i forced s) = oldestEntry k s := by
  cases forced <;> rfl

theorem engineRun_of_none {s : State} (h : startChoice s = none) (n : Nat) : engineRun n s = s := by
  cases n with
  | zero => rfl
  | succ n => simp only [engineRun, h]

/-- A pass that starts a batch with entries takes the oldest. -/
theorem engineRun_succ_of_entry {s : State} {i : SlotIx} {forced : Bool} {e : Entry} (h : startChoice s = some (i, forced))
    (he : oldestEntry i s = some e) (n : Nat) : engineRun (n + 1) s = takeEntry i e (startBatch i forced s) := by
  simp only [engineRun, h, oldestEntry_startBatch, he]

/-- A pass that starts a batch without entries completes it, and the test is made again. -/
theorem engineRun_succ_of_empty {s : State} {i : SlotIx} {forced : Bool} (h : startChoice s = some (i, forced))
    (he : oldestEntry i s = none) (n : Nat) : engineRun (n + 1) s = engineRun n (completeBatch i (startBatch i forced s)) := by
  simp only [engineRun, h, oldestEntry_startBatch, he]

theorem engineWork_pass {s : State} {i : SlotIx} {forced : Bool} (h : startChoice s = some (i, forced)) :
    engineWork (completeBatch i (startBatch i forced s)) < engineWork s := by
  have hdraining : slotState i (startBatch i forced s) = .draining := by rw [slotState_startBatch, if_pos rfl]
  exact (engineWork_completeBatch hdraining).trans_eq (engineWork_startBatch h).1

/-- Enough passes leave nothing to start. -/
theorem startChoice_engineRun {n : Nat} {s : State} (h : engineWork s ≤ n) : startChoice (engineRun n s) = none := by
  induction n generalizing s with
  | zero => exact startChoice_of_noWork (Nat.le_zero.mp h)
  | succ n ih =>
    cases hc : startChoice s with
    | none => rw [engineRun_of_none hc]; exact hc
    | some c =>
      obtain ⟨i, forced⟩ := c
      cases he : oldestEntry i s with
      | some e =>
        rw [engineRun_succ_of_entry hc he]
        exact startChoice_of_current ((takeEntry_current i e _).trans (startBatch_current i forced s))
      | none =>
        have hless := engineWork_pass hc
        rw [engineRun_succ_of_empty hc he]
        exact ih (by omega)

/-- One pass more than enough changes nothing. -/
theorem engineRun_succ {n : Nat} {s : State} (h : engineWork s ≤ n) : engineRun (n + 1) s = engineRun n s := by
  induction n generalizing s with
  | zero => exact engineRun_of_none (startChoice_of_noWork (Nat.le_zero.mp h)) 1
  | succ n ih =>
    cases hc : startChoice s with
    | none => rw [engineRun_of_none hc, engineRun_of_none hc]
    | some c =>
      obtain ⟨i, forced⟩ := c
      cases he : oldestEntry i s with
      | some e => rw [engineRun_succ_of_entry hc he, engineRun_succ_of_entry hc he]
      | none =>
        have hless := engineWork_pass hc
        rw [engineRun_succ_of_empty hc he, engineRun_succ_of_empty hc he]
        exact ih (by omega)

/-- The test where nothing is to start. -/
theorem engineTest_of_none {s : State} (h : startChoice s = none) : engineTest s = s := engineRun_of_none h 8

/-- The test where a batch with entries is to start. -/
theorem engineTest_of_entry {s : State} {i : SlotIx} {forced : Bool} {e : Entry} (h : startChoice s = some (i, forced))
    (he : oldestEntry i s = some e) : engineTest s = takeEntry i e (startBatch i forced s) :=
  engineRun_succ_of_entry h he 7

/-- The test where a batch without entries is to start. -/
theorem engineTest_of_empty {s : State} {i : SlotIx} {forced : Bool} (h : startChoice s = some (i, forced))
    (he : oldestEntry i s = none) : engineTest s = engineTest (completeBatch i (startBatch i forced s)) := by
  have hfew : engineWork (completeBatch i (startBatch i forced s)) ≤ 7 := engineWork_le _
  calc engineTest s = engineRun 7 (completeBatch i (startBatch i forced s)) := engineRun_succ_of_empty h he 7
    _ = engineTest (completeBatch i (startBatch i forced s)) := (engineRun_succ hfew).symm

/-- Settles O11: the count of batches and waiting closes falls with every batch the test completes, and eight passes are
more than it can be. -/
theorem engineTestLeavesNothingToStart : Obligations.EngineTestLeavesNothingToStart :=
  ⟨fun s => startChoice_engineRun ((engineWork_le s).trans (by decide)), fun _ _ _ => engineTest_of_empty⟩

end Sys2Proof.Machine
end

section
/-! PROOFS. The bytes of the setup port (10.1, Tables 11-4 and 11-8): a command is its bytes and its bytes are the command,
how the port takes them, and the rows that find nothing to do. -/

namespace Sys2Proof.Machine

/-! ### Fields of several bytes (R181) -/

theorem of16_bytes (v : BitVec 16) : of16 (v.extractLsb' 8 8) (v.extractLsb' 0 8) = v := by
  rw [of16, BitVec.extractLsb'_append_extractLsb'_eq_extractLsb' (by rfl), BitVec.extractLsb'_eq_self]

theorem of24_bytes (v : BitVec 24) : of24 (v.extractLsb' 16 8) (v.extractLsb' 8 8) (v.extractLsb' 0 8) = v := by
  rw [of24, BitVec.extractLsb'_append_extractLsb'_eq_extractLsb' (by rfl),
    BitVec.extractLsb'_append_extractLsb'_eq_extractLsb' (by rfl), BitVec.extractLsb'_eq_self]

theorem of32_bytes (v : BitVec 32) :
    of32 (v.extractLsb' 24 8) (v.extractLsb' 16 8) (v.extractLsb' 8 8) (v.extractLsb' 0 8) = v := by
  rw [of32, BitVec.extractLsb'_append_extractLsb'_eq_extractLsb' (by rfl),
    BitVec.extractLsb'_append_extractLsb'_eq_extractLsb' (by rfl),
    BitVec.extractLsb'_append_extractLsb'_eq_extractLsb' (by rfl), BitVec.extractLsb'_eq_self]

/-- The low byte of a field is the last one taken. -/
theorem extractLsb'_append_low {n : Nat} (v : BitVec n) (b : Byte) : (v ++ b).extractLsb' 0 8 = b :=
  BitVec.extractLsb'_append_eq_right

/-- The bytes above it are those of the field before. -/
theorem extractLsb'_append_high {n : Nat} (v : BitVec n) (b : Byte) (k : Nat) :
    (v ++ b).extractLsb' (k + 8) 8 = v.extractLsb' k 8 := by
  apply BitVec.eq_of_getLsbD_eq
  intro j hj
  simp only [BitVec.getLsbD_extractLsb', BitVec.getLsbD_append, hj, decide_true, Bool.true_and]
  rw [if_neg (by omega)]
  exact congrArg _ (by omega)

theorem extractLsb'_byte (b : Byte) : b.extractLsb' 0 8 = b := BitVec.extractLsb'_eq_self

theorem bytes16_of16 (b1 b0 : Byte) : bytes16 (of16 b1 b0) = [b1, b0] := by
  rw [bytes16, of16, extractLsb'_append_high _ _ 0, extractLsb'_append_low, extractLsb'_byte]

theorem bytes24_of24 (b2 b1 b0 : Byte) : bytes24 (of24 b2 b1 b0) = [b2, b1, b0] := by
  rw [bytes24, of24, extractLsb'_append_high _ _ 8, extractLsb'_append_high _ _ 0, extractLsb'_append_low,
    extractLsb'_append_high _ _ 0, extractLsb'_append_low, extractLsb'_byte]

theorem bytes32_of32 (b3 b2 b1 b0 : Byte) : bytes32 (of32 b3 b2 b1 b0) = [b3, b2, b1, b0] := by
  rw [bytes32, of32, extractLsb'_append_high _ _ 16, extractLsb'_append_high _ _ 8, extractLsb'_append_high _ _ 0,
    extractLsb'_append_low, extractLsb'_append_high _ _ 8, extractLsb'_append_high _ _ 0, extractLsb'_append_low,
    extractLsb'_append_high _ _ 0, extractLsb'_append_low, extractLsb'_byte]

/-! ### A command and its bytes -/

/-- Every command is read back from its bytes. -/
theorem parseCommand_bytes (c : SetupCommand) : parseCommand c.bytes = some c := by
  cases c with
  | winWrite p =>
    show parseWinWrite (SetupCommand.winWrite p).params = some (.winWrite p)
    simp only [SetupCommand.params, bytes16, bytes24, bytes32, List.cons_append, List.nil_append, parseWinWrite, of16_bytes,
      of24_bytes, of32_bytes]
  | marks c r k =>
    show parseMarks (SetupCommand.marks c r k).params = some (.marks c r k)
    simp only [SetupCommand.params, bytes24, List.cons_append, List.nil_append, parseMarks, of24_bytes]
  | ring b z =>
    show parseRing (SetupCommand.ring b z).params = some (.ring b z)
    simp only [SetupCommand.params, bytes24, List.cons_append, List.nil_append, parseRing, of24_bytes]
  | stall l =>
    show parseStall (SetupCommand.stall l).params = some (.stall l)
    simp only [SetupCommand.params, bytes16, parseStall, of16_bytes]
  | _ => rfl

theorem parseNone_eq_some {d c : SetupCommand} {ps : List Byte} (h : parseNone d ps = some c) : ps = [] ∧ c = d := by
  unfold parseNone at h
  split at h
  · cases h; exact ⟨rfl, rfl⟩
  · cases h

theorem parseByte_eq_some {make : Byte → SetupCommand} {c : SetupCommand} {ps : List Byte}
    (h : parseByte make ps = some c) : ∃ b, ps = [b] ∧ c = make b := by
  unfold parseByte at h
  split at h
  · cases h; exact ⟨_, rfl, rfl⟩
  · cases h

theorem parseWinWrite_eq_some {c : SetupCommand} {ps : List Byte} (h : parseWinWrite ps = some c) :
    ∃ p, c = .winWrite p ∧ ps = c.params := by
  unfold parseWinWrite at h
  split at h
  · cases h
    refine ⟨_, rfl, ?_⟩
    simp only [SetupCommand.params, bytes24_of24, bytes16_of16, bytes32_of32, List.cons_append, List.nil_append]
  · cases h

theorem parseMarks_eq_some {c : SetupCommand} {ps : List Byte} (h : parseMarks ps = some c) :
    ∃ a b k, c = .marks a b k ∧ ps = c.params := by
  unfold parseMarks at h
  split at h
  · cases h
    refine ⟨_, _, _, rfl, ?_⟩
    simp only [SetupCommand.params, bytes24_of24, List.cons_append, List.nil_append]
  · cases h

theorem parseRing_eq_some {c : SetupCommand} {ps : List Byte} (h : parseRing ps = some c) :
    ∃ b z, c = .ring b z ∧ ps = c.params := by
  unfold parseRing at h
  split at h
  · cases h
    refine ⟨_, _, rfl, ?_⟩
    simp only [SetupCommand.params, bytes24_of24, List.cons_append, List.nil_append]
  · cases h

theorem parseStall_eq_some {c : SetupCommand} {ps : List Byte} (h : parseStall ps = some c) :
    ∃ l, c = .stall l ∧ ps = c.params := by
  unfold parseStall at h
  split at h
  · cases h
    refine ⟨_, rfl, ?_⟩
    simp only [SetupCommand.params, bytes16_of16]
  · cases h

theorem parseNone_code {d c : SetupCommand} {ps : List Byte} {code : Byte} (h : parseNone d ps = some c)
    (hcode : code.toNat = d.code.toNat) (hp : d.params = []) : code :: ps = c.bytes := by
  obtain ⟨rfl, rfl⟩ := parseNone_eq_some h
  rw [SetupCommand.bytes, hp, BitVec.eq_of_toNat_eq hcode]

theorem parseByte_code {make : Byte → SetupCommand} {c : SetupCommand} {ps : List Byte} {code : Byte}
    (h : parseByte make ps = some c) (hcode : ∀ b, code.toNat = (make b).code.toNat)
    (hp : ∀ b, (make b).params = [b]) : code :: ps = c.bytes := by
  obtain ⟨b, rfl, rfl⟩ := parseByte_eq_some h
  rw [SetupCommand.bytes, hp b, BitVec.eq_of_toNat_eq (hcode b)]

/-- The bytes that spell a command are its bytes. -/
theorem bytes_of_parseCommand {bs : List Byte} {c : SetupCommand} (h : parseCommand bs = some c) : bs = c.bytes := by
  unfold parseCommand at h
  split at h
  · cases h
  · rename_i code ps
    have hown {n : Nat} (hn : code.toNat = n) {d : SetupCommand} (hd : n = d.code.toNat) (hp : ps = d.params) :
        code :: ps = d.bytes := by
      rw [SetupCommand.bytes, hp, BitVec.eq_of_toNat_eq (hn.trans hd)]
    unfold parseParams at h
    split at h
    case h_6 hn =>
      obtain ⟨p, rfl, hp⟩ := parseWinWrite_eq_some h
      exact hown hn rfl hp
    case h_10 hn =>
      obtain ⟨a, b, k, rfl, hp⟩ := parseMarks_eq_some h
      exact hown hn rfl hp
    case h_11 hn =>
      obtain ⟨b, z, rfl, hp⟩ := parseRing_eq_some h
      exact hown hn rfl hp
    case h_13 hn =>
      obtain ⟨l, rfl, hp⟩ := parseStall_eq_some h
      exact hown hn rfl hp
    case h_4 hn | h_5 hn | h_7 hn | h_8 hn | h_9 hn | h_12 hn | h_14 hn | h_15 hn | h_20 hn =>
      exact parseByte_code h (fun _ => hn) fun _ => rfl
    case h_23 => cases h
    all_goals
      rename_i hn
      exact parseNone_code h hn rfl

/-- The command byte fixes how many parameter bytes follow (Table 11-4). -/
theorem paramCount_code (c : SetupCommand) : paramCount c.code = some c.params.length := by
  cases c <;> rfl

theorem assignedCode_code (c : SetupCommand) : assignedCode c.code = true := by
  cases c <;> rfl

/-- A byte begins a command exactly when it has a parameter count. -/
theorem paramCount_isSome (b : Byte) : (paramCount b).isSome = assignedCode b := by
  revert b
  decide

/-- Every assigned byte is the code of a command. -/
theorem exists_code_of_assignedCode {b : Byte} (h : assignedCode b = true) : ∃ c : SetupCommand, c.code = b := by
  have hcodes : b.toNat ∈ [SetupCommand.ident, .status, .events, .clear 0, .mask 0,
      .winWrite ⟨0, 0, 0, 0, 0, 0, 0, 0, 0, 0, 0, 0⟩, .winRead 0, .winEnable 0, .winDisable 0, .marks 0 0 0, .ring 0 0,
      .sync 0, .stall 0, .arbitration 0, .tick 0, .engage, .disengage, .discard, .flush, .counters 0, .errinfo,
      .softReset].map fun c : SetupCommand => c.code.toNat := of_decide_eq_true h
  obtain ⟨c, -, hc⟩ := List.mem_map.mp hcodes
  exact ⟨c, BitVec.eq_of_toNat_eq hc⟩

theorem assignedCode_iff (b : Byte) : assignedCode b = true ↔ ∃ c : SetupCommand, c.bytes.head? = some b := by
  constructor
  · intro h
    obtain ⟨c, rfl⟩ := exists_code_of_assignedCode h
    exact ⟨c, rfl⟩
  · rintro ⟨c, hc⟩
    cases hc
    exact assignedCode_code c

/-- Settles O21: the fields are taken apart into bytes and put together again, and the rest are the tables. -/
theorem setupBytesRoundTrip : Obligations.SetupBytesRoundTrip := by
  refine ⟨parseCommand_bytes, ⟨fun _ => rfl, fun _ => rfl, fun _ => rfl⟩,
    ⟨rfl, rfl, rfl, rfl, rfl, rfl, rfl, rfl, rfl⟩, fun _ => ⟨rfl, rfl, rfl, rfl, rfl, rfl, rfl, rfl, rfl⟩,
    fun _ _ _ _ _ _ => ⟨rfl, rfl, rfl⟩, fun _ => rfl, assignedCode_iff⟩

/-! ### Bytes shifted in -/

theorem exec_setupByteShifted_assembling {s : State} {got : List Byte} (hr : s.resetn = true)
    (hp : s.setup.phase = .assembling got) (b : Byte) :
    exec (.setupByteShifted b) s = .next (takeByte got b s) := by
  have hexec : exec (.setupByteShifted b) s = execSetupByteShifted b s := rfl
  rw [hexec, execSetupByteShifted, hr, hp]
  rfl

theorem exec_setupByteShifted_executed {s : State} {out : List Byte} {r : Bool} (hr : s.resetn = true)
    (hp : s.setup.phase = .executed out r) (b : Byte) : exec (.setupByteShifted b) s = .next (clockOut 1 s) := by
  have hexec : exec (.setupByteShifted b) s = execSetupByteShifted b s := rfl
  rw [hexec, execSetupByteShifted, hr, hp]
  rfl

theorem exec_setupByteShifted_closed {s : State}
    (h : s.resetn = false ∨ s.setup.phase = .noTransaction ∨ s.setup.phase = .blocked) (b : Byte) :
    exec (.setupByteShifted b) s = .next s := by
  have hexec : exec (.setupByteShifted b) s = execSetupByteShifted b s := rfl
  rw [hexec, execSetupByteShifted]
  rcases h with h | h | h <;> simp [h]

/-- Bytes clocked after a command shift out the result and the response (R161). -/
theorem clockOut_executed {s : State} {out : List Byte} {r : Bool} (h : s.setup.phase = .executed out r) {n : Nat}
    (hn : n ≠ 0) :
    clockOut n s = { s with setup.phase := .executed (out.drop n) true,
                            setup.sdo := some ((out.drop (n - 1)).headD Config.idleByte) } := by
  simp only [clockOut, h, if_neg hn]

theorem takeByte_of_parse {got : List Byte} {b : Byte} {c : SetupCommand} (h : got ++ [b] = c.bytes) (s : State) :
    takeByte got b s = execute (runCommand c) s := by
  simp only [takeByte, h, parseCommand_bytes]

/-- The first bytes of a command, short of the last, spell no command. -/
theorem parseCommand_take {c : SetupCommand} {k : Nat} (hk : k + 1 < c.bytes.length) :
    parseCommand (c.bytes.take (k + 1)) = none := by
  cases hd : parseCommand (c.bytes.take (k + 1)) with
  | none => rfl
  | some d =>
    have hbytes := bytes_of_parseCommand hd
    have hcode : c.code = d.code := List.head_eq_of_cons_eq hbytes
    have hcount := paramCount_code c
    rw [hcode, paramCount_code d, Option.some.injEq] at hcount
    have hlen := congrArg List.length hbytes
    simp only [SetupCommand.bytes, List.length_take, List.length_cons] at hlen hk
    omega

/-- A byte that is not the last of a command joins the assembly. -/
theorem takeByte_of_more {c : SetupCommand} {k : Nat} {b : Byte} (hb : c.bytes[k]? = some b)
    (hk : k + 1 ≠ c.bytes.length) (s : State) :
    takeByte (c.bytes.take k) b s
      = { s with setup.phase := .assembling (c.bytes.take (k + 1)), setup.sdo := some 0xFF } := by
  have htake : c.bytes.take k ++ [b] = c.bytes.take (k + 1) := by rw [List.take_add_one, hb]; rfl
  obtain ⟨hlt, -⟩ := List.getElem?_eq_some_iff.mp hb
  have hparse := parseCommand_take (c := c) (k := k) (by omega)
  have hhead : (c.bytes.take (k + 1)).head? = some c.code := rfl
  simp only [takeByte, htake, hparse, hhead, Option.bind_some, paramCount_code, Option.isNone_some, Bool.false_eq_true,
    if_false, Config.idleByte]

/-- A first byte that names no command executes with UNKNOWN (R162). -/
theorem takeByte_of_unknown {b : Byte} (h : assignedCode b = false) (s : State) :
    takeByte [] b s = execute (refuse .unknown) s := by
  have hcount : paramCount b = none := by
    rw [← Option.not_isSome_iff_eq_none, paramCount_isSome, h]
    decide
  have hparse : parseCommand [b] = none := by
    cases hd : parseCommand [b] with
    | none => rfl
    | some d =>
      have hcode : b = d.code := List.head_eq_of_cons_eq (bytes_of_parseCommand hd)
      rw [hcode, assignedCode_code] at h
      cases h
  simp only [takeByte, List.nil_append, hparse, List.head?_cons, Option.bind_some, hcount, Option.isNone_none, if_true]

/-- Settles O22: a byte completes its command, joins the assembly, names none, or clocks the response out. -/
theorem setupBytesShiftedIn : Obligations.SetupBytesShiftedIn := by
  refine ⟨fun c k b s hr hb hp => ?taken, fun b s hr ha hp => ?unknown, fun b out r s hr hp => ?clocked⟩
  case taken =>
    rw [exec_setupByteShifted_assembling hr hp]
    split
    · rename_i hk
      have htake : c.bytes.take k ++ [b] = c.bytes := by
        calc c.bytes.take k ++ [b] = c.bytes.take (k + 1) := by rw [List.take_add_one, hb]; rfl
          _ = c.bytes := by rw [hk, List.take_length]
      rw [takeByte_of_parse htake]
    · rename_i hk
      rw [takeByte_of_more hb hk]
  case unknown =>
    rw [exec_setupByteShifted_assembling hr hp, takeByte_of_unknown ha, execute_refuse]
    rfl
  case clocked =>
    rw [exec_setupByteShifted_executed hr hp, clockOut_executed hp one_ne_zero]
    simp [Config.idleByte]

/-! ### Rows -/

/-- Settles O23: a row delivers the bytes of its command to a ready port. -/
theorem commandRowsExecute : Obligations.CommandRowsExecute := by
  refine ⟨fun i c s hi hready => ?_, fun code s ha hready => ?_⟩
  · rw [exec_of_setupCommand hi, deliver_ready hready]
  · have hexec : exec (.unknownCommand code) s = execUnknownCommand code s := rfl
    rw [hexec, execUnknownCommand, paramCount_isSome, ha, if_neg Bool.false_ne_true, deliver_ready hready, execute_refuse]
    rfl

/-- The pin and bus rows that find nothing to do. -/
theorem rows_without_effect (word : WordAddr) (lanes : LaneMask) (data : Word) (s : State) :
    (s.resetn = false → exec .pinReset s = .next s) ∧ (s.resetn = true → exec .resetnRise s = .next s)
      ∧ (s.setup.phase ≠ .noTransaction → exec .transactionStart s = .next s)
      ∧ (s.setup.phase = .noTransaction → exec .transactionEnd s = .next s)
      ∧ (¬(s.stall.active = true ∧ s.stall.expired = false ∧ s.stall.limit.toNat ≤ s.stall.elapsed.toNat) →
          exec .stallExpiry s = .next s)
      ∧ (s.cfg.source = .immediate → exec .blankStart s = .next s ∧ exec .blankEnd s = .next s)
      ∧ (s.sys ≠ .idle →
          exec (.systemRead word lanes) s = .next s ∧ exec (.systemWrite word lanes data) s = .next s)
      ∧ (s.refresh ≠ .idle →
          exec (.refreshRead word lanes) s = .next s ∧ exec (.refreshWrite word lanes) s = .next s) := by
  refine ⟨fun h => ?low, fun h => ?high, fun h => ?started, fun h => ?ended, fun h => ?expiry, fun h => ?blank,
    fun h => ?busy, fun h => ?refresh⟩
  case low => simp [exec, execPinReset, h]
  case high => simp [exec, execResetnRise, h]
  case started =>
    have hexec : exec .transactionStart s = execTransactionStart s := rfl
    rw [hexec, execTransactionStart]
    split
    · rename_i hp
      exact absurd hp h
    all_goals rfl
  case ended => simp [exec, execTransactionEnd, h]
  case expiry =>
    have hdue : expiryDue s = false := by
      rw [← Bool.not_eq_true]
      intro hd
      refine h ?_
      simpa [expiryDue, BitVec.le_def, and_assoc] using hd
    simp [exec, execStallExpiry, hdue]
  case blank => simp [exec, execBlankStart, execBlankEnd, h]
  case busy => simp [exec, execSystemRead, execSystemWrite, h]
  case refresh => simp [exec, execRefreshRead, execRefreshWrite, h]

/-- Settles O24: a closed port, a busy port and an event that cannot occur change nothing, and a row that contradicts what
is in assembly or in flight stops. -/
theorem rowsWithoutEffectAndStops : Obligations.RowsWithoutEffectAndStops := by
  refine ⟨fun i c b s hi => ⟨fun hclosed => ?closed, fun out r hr hp => ?clocked⟩, rows_without_effect,
    fun i c got s hi hr hp hne => ?contradicts, fun code s ha => ?named, fun k r w s hk => ?response⟩
  case closed =>
    rw [exec_of_setupCommand hi, deliver_closed hclosed, exec_setupByteShifted_closed hclosed]
    exact ⟨rfl, rfl⟩
  case clocked =>
    have hlen : c.bytes.length ≠ 0 := List.length_pos_iff.mpr (List.cons_ne_nil _ _) |>.ne'
    rw [exec_of_setupCommand hi, deliver_executed hr hp, clockOut_executed hp hlen]
    rfl
  case contradicts => rw [exec_of_setupCommand hi, deliver_contradicts hr hp hne]
  case named => simp [exec, execUnknownCommand, paramCount_isSome, ha]
  case response =>
    have hnone := inFlightOf_none hk
    cases k with
    | systemRead => simp [exec, execSystemReadResponse, hnone]
    | destinationRead => simp [exec, execDestinationReadResponse, hnone]
    | immediateWrite => simp [exec, execImmediateWriteResponse, hnone]
    | drainRead => simp [exec, execDrainReadResponse, hnone]
    | drainWrite => simp [exec, execDrainWriteResponse, hnone]
    | recordWrite => simp [exec, execRecordWriteResponse, hnone]
    | refreshRead => simp [exec, execRefreshReadResponse, hnone]

/-- Settles O25: each row has one branch for each phase of the port. -/
theorem transactionStartAndEnd : Obligations.TransactionStartAndEnd := by
  refine ⟨fun s hp => ?_, fun s hp hpending => ?_⟩
  · have hexec : exec .transactionStart s = execTransactionStart s := rfl
    rw [hexec, execTransactionStart, hp]
  · have hexec : exec .transactionEnd s = execTransactionEnd s := rfl
    rw [hexec, execTransactionEnd]
    split
    · rename_i out shifted hout
      split
      · rename_i hboth
        obtain ⟨hsoft, rfl⟩ := Bool.and_eq_true_iff.mp hboth
        rw [hpending out hout] at hsoft
        cases hsoft
      · rfl
    · rfl
    · rfl
    · rename_i hno
      exact absurd hno hp

end Sys2Proof.Machine
end

section
/-! PROOFS. The part state (10.3, Table 10-2): ENGAGE, DISENGAGE and the resets set it, and the one other change is into
PASS, from QUIESCING, with every slot FREE. -/

namespace Sys2Proof.Machine

/-! ### A drain that ends -/

/-- The part state is the one given, or has gone from QUIESCING to PASS with every slot FREE. -/
def drainedTo (p : PartState) (t : State) : Prop :=
  t.part = p ∨ p = .quiescing ∧ t.part = .pass ∧ ∀ i, slotState i t = .free

theorem drainedTo_congr {p : PartState} {s t : State} (h : drainedTo p s) (hp : t.part = s.part)
    (hs : ∀ i, slotState i t = slotState i s) : drainedTo p t := by
  unfold drainedTo
  rw [hp]
  simp only [hs]
  exact h

theorem drainedTo_of_batchView {p : PartState} {s t : State} (h : drainedTo p s) (hv : batchView t = batchView s) :
    drainedTo p t := by
  obtain ⟨hp, hb, -⟩ := batchView_fields hv
  exact drainedTo_congr h hp (slotState_congr hb)

theorem drainedTo_slotFreed {p : PartState} {s : State} (h : drainedTo p s) : drainedTo p (slotFreed s) := by
  by_cases hengaged : s.part = .engaged
  · rcases h with hp | ⟨-, hpass, -⟩
    · exact .inl ((slotFreed_part_engaged hengaged).trans (hengaged.symm.trans hp))
    · rw [hengaged] at hpass
      cases hpass
  · rcases slotFreed_cases s with heq | ⟨hq, hfree, heq⟩ | ⟨he, -⟩
    · rw [heq]; exact h
    · obtain ⟨hpart, hbatch, -⟩ := batchView_fields (enterPass_batchView s)
      rw [heq]
      rcases h with hp | ⟨-, hpass, -⟩
      · exact .inr ⟨hp.symm.trans hq, hpart, fun i => (slotState_congr hbatch i).trans ((allFree_iff s).mp hfree i)⟩
      · rw [hq] at hpass
        cases hpass
    · exact absurd he hengaged

theorem drainedTo_completeBatch {p : PartState} {s : State} (h : drainedTo p s) (i : SlotIx) :
    drainedTo p (completeBatch i s) := by
  have hfreed : drainedTo p (freedState i s) := by
    rcases h with hp | ⟨hq, hpass, hfree⟩
    · exact .inl ((freedState_part i s).trans hp)
    · refine .inr ⟨hq, (freedState_part i s).trans hpass, fun k => ?_⟩
      rw [freedState_slotState, hfree k, ite_self]
  rw [completeBatch_eq]
  exact drainedTo_congr (drainedTo_slotFreed hfreed) rfl fun _ => rfl

/-- A batch starts where not every slot is FREE, so not after the drain has ended. -/
theorem drainedTo_startBatch {p : PartState} {s : State} {i : SlotIx} {forced : Bool} (h : drainedTo p s)
    (hc : startChoice s = some (i, forced)) : drainedTo p (startBatch i forced s) := by
  obtain ⟨-, hi⟩ := startChoice_some hc
  rcases h with hp | ⟨-, -, hfree⟩
  · exact .inl ((startBatch_part i forced s).trans hp)
  · rw [hfree i] at hi
    rcases hi with hi | hi <;> cases hi

theorem drainedTo_takeEntry {p : PartState} {s : State} (h : drainedTo p s) (i : SlotIx) (e : Entry) :
    drainedTo p (takeEntry i e s) :=
  drainedTo_congr h (takeEntry_part i e s) (takeEntry_slotState i e · s)

theorem drainedTo_engineTest {p : PartState} {s : State} (h : drainedTo p s) : drainedTo p (engineTest s) :=
  engineTest_keeps (P := drainedTo p) (fun _ _ _ => drainedTo_startBatch) (fun i e _ h _ => drainedTo_takeEntry h i e)
    (fun i _ h _ => drainedTo_completeBatch h i) h

theorem drainedTo_nextEntry {p : PartState} {s : State} (h : drainedTo p s) (i : SlotIx) :
    drainedTo p (nextEntry i s) := by
  unfold nextEntry
  split
  · exact drainedTo_takeEntry h i _
  · exact drainedTo_engineTest (drainedTo_completeBatch h i)

/-! ### The operations of the ports -/

theorem drainedTo_otherMarkEffect (w : WriteJob) (s : State) : drainedTo s.part (otherMarkEffect w s) := by
  unfold otherMarkEffect
  split
  · split
    · exact drainedTo_engineTest (.inl (releaseOldest_part s))
    · exact .inl rfl
  · exact drainedTo_of_batchView (.inl rfl) (batchView_snoopConsumer _ s)
  · exact .inl rfl
  · exact .inl rfl

theorem drainedTo_acceptWrite (word : WordAddr) (lanes : LaneMask) (data : Word) (s : State) :
    drainedTo s.part (acceptWrite word lanes data s) := by
  unfold acceptWrite
  split
  · exact drainedTo_of_batchView (drainedTo_otherMarkEffect _ s) (batchView_stepMemory _ _)
  · unfold acceptEngaged
    split
    · split
      · exact .inl (batchView_fields (batchView_stepDestination _ _)).1
      · exact .inl rfl
    · split
      · unfold acceptClose
        split
        · exact drainedTo_of_batchView (drainedTo_engineTest (.inl (closeAndOpen_part _ s))) (batchView_stepDestination _ _)
        · exact .inl rfl
      · exact drainedTo_of_batchView (drainedTo_otherMarkEffect _ s) (batchView_stepDestination _ _)
  · unfold acceptQuiescing
    split
    · exact .inl rfl
    · exact drainedTo_of_batchView (drainedTo_otherMarkEffect _ s) (batchView_stepDestination _ _)

theorem grantTo_part (r : Requester) (s : State) : (grantTo r s).part = s.part := by
  rcases grantTo_cases r s with heq | ⟨q, ⟨-, -, heq⟩ | ⟨-, -, heq⟩ | ⟨-, -, heq⟩ | ⟨-, -, heq⟩⟩
  · rw [heq]
  · rw [heq]; rfl
  · rw [heq]; exact grantRecord_part _
  · rw [heq]
    unfold grantDrain
    split
    · rename_i i e _ _
      split
      · have hpart := (batchView_fields (batchView_placeFreed (removeEntry e.word i (tornTest i (countDrained i
          { putInFlight q { s with waits := waitsAfter r s } with drain.access := .writeInFlight }))))).1
        exact hpart.trans (tornTest_batch i _).1
      · rfl
    · rfl
  · rw [heq]; exact (batchView_fields (grantSystem_batchView _)).1

theorem takeResponse_part (f : InFlight) (failed : Bool) (s : State) : (takeResponse f failed s).part = s.part :=
  (batchView_fields (batchView_takeResponse f failed s)).1

theorem drainedTo_afterDrainRead (i : SlotIx) (e : Entry) (reply : ReadReply) (s : State) :
    drainedTo s.part (afterDrainRead i e reply s) := by
  cases reply with
  | ok d => exact .inl rfl
  | error => exact drainedTo_nextEntry (.inl (batchView_fields (batchView_placeFreed _)).1) i

theorem drainedTo_afterDrainWrite (i : SlotIx) (reply : WriteReply) (s : State) :
    drainedTo s.part (afterDrainWrite i reply s) := by
  cases reply with
  | ok => exact drainedTo_nextEntry (.inl rfl) i
  | error => exact drainedTo_nextEntry (.inl rfl) i

/-! ### The commands -/

theorem disengageWrite_part (s : State) : (disengageWrite s).part = s.part := (disengageWrite_slots s).2.1

/-- DISENGAGE leaves ENGAGED for QUIESCING, and goes on to PASS where its drain ends at once. -/
theorem drainedTo_cmdDisengage {s : State} (h : s.part = .engaged) : drainedTo .quiescing (cmdDisengage s).next := by
  unfold cmdDisengage
  rw [if_neg (not_not_intro h)]
  exact drainedTo_engineTest (.inl ((disengageWrite_part _).trans (disengageBatches_part _)))

theorem drainedTo_cmdFlush (s : State) : drainedTo s.part (cmdFlush s).next := by
  unfold cmdFlush
  split
  · exact .inl rfl
  · exact drainedTo_engineTest (.inl (flushEngaged_slots s).1)
  · exact drainedTo_engineTest (.inl (extendHorizonTo_part _ s))

theorem cmdDiscard_part (s : State) : (cmdDiscard s).next.part = s.part := by
  unfold cmdDiscard
  split
  · rfl
  · show (discardOpen s).part = s.part
    unfold discardOpen
    split
    · rfl
    · split
      · exact (batchView_fields (batchView_placeFreed _)).1
      · rfl

theorem cmdEngage_part (s : State) :
    (cmdEngage s).next.part = s.part ∨ s.part = .pass ∧ (cmdEngage s).next.part = .engaged := by
  unfold cmdEngage
  split
  · exact .inl rfl
  · rename_i hp
    split
    · exact .inl rfl
    · split
      · exact .inl rfl
      · exact .inr ⟨not_not.mp hp, rfl⟩

/-- A command other than ENGAGE and DISENGAGE. -/
theorem drainedTo_runCommand {c : SetupCommand} (he : c ≠ .engage) (hd : c ≠ .disengage) (s : State) :
    drainedTo s.part (runCommand c s).next := by
  by_cases hx : c = .discard
  · rw [hx]; exact .inl (cmdDiscard_part s)
  · by_cases hf : c = .flush
    · rw [hf]; exact drainedTo_cmdFlush s
    · exact .inl (batchView_fields (runCommand_batchView he hd hx hf s)).1

/-! ### Every effect -/

/-- A reset leaves the part in PASS with every slot FREE. -/
def resetDone (t : State) : Prop := t.part = .pass ∧ ∀ i, slotState i t = .free

theorem resetDone_of_batch {t : State} (hp : t.part = .pass) (hb : t.batch = BatchQueue.reset) : resetDone t := by
  refine ⟨hp, fun i => ?_⟩
  rw [slotState, slotOf, hb]
  revert i
  decide

/-- What one command can do to the part state. -/
theorem effect_part {c : Instr} {s t : State} (h : Effect c s t) :
    drainedTo s.part t
      ∨ (Completes c .engage s ∧ s.part = .pass ∧ t.part = .engaged)
      ∨ (Completes c .disengage s ∧ s.part = .engaged ∧ drainedTo .quiescing t)
      ∨ ((c = .pinReset ∨ c = .transactionEnd ∧ s.setup.softResetPending = true) ∧ resetDone t) := by
  cases h with
  | @ran _ cmd _ hcmd =>
    by_cases he : cmd = .engage
    · subst he
      rcases cmdEngage_part s with hsame | ⟨hpass, hengaged⟩
      · exact .inl (.inl hsame)
      · exact .inr (.inl ⟨hcmd, hpass, hengaged⟩)
    · by_cases hd : cmd = .disengage
      · subst hd
        by_cases hp : s.part = .engaged
        · exact .inr (.inr (.inl ⟨hcmd, hp, drainedTo_cmdDisengage hp⟩))
        · have hrefused : (cmdDisengage s).next.part = s.part := by
            rw [cmdDisengage, if_pos hp]
            rfl
          exact .inl (.inl hrefused)
      · exact .inl (drainedTo_runCommand he hd s)
  | softReset p hp =>
    obtain ⟨hpart, hbatch, -⟩ := batchView_fields (softReset_batchView { s with setup := p })
    exact .inr (.inr (.inr ⟨.inr ⟨rfl, hp⟩, resetDone_of_batch hpart hbatch⟩))
  | pinReset p => exact .inr (.inr (.inr ⟨.inl rfl, resetDone_of_batch rfl rfl⟩))
  | expiry hd => exact .inl (drainedTo_engineTest (.inl (forceFor_slots _ _).1))
  | blankStart hc high => exact .inl (drainedTo_engineTest (.inl (extendDrainSet_batch _).1))
  | writeTaken word data hi hl => exact .inl (drainedTo_acceptWrite _ _ _ _)
  | granted hf hr => exact .inl (.inl (grantTo_part _ s))
  | systemReadAnswered hf hr reply => exact .inl (.inl (takeResponse_part _ _ s))
  | destinationReadAnswered hf hw reply =>
    exact .inl (.inl ((batchView_fields (batchView_afterDestinationRead _ _ _)).1.trans (takeResponse_part _ _ s)))
  | immediateWriteAnswered hf hw reply => exact .inl (.inl (takeResponse_part _ _ s))
  | refreshReadAnswered hf reply => exact .inl (.inl (takeResponse_part _ _ s))
  | discarded failed hc hf => exact .inl (.inl (takeResponse_part _ _ s))
  | drainReadAnswered hf hi he reply => exact .inl (takeResponse_part _ _ s ▸ drainedTo_afterDrainRead _ _ reply _)
  | drainWriteAnswered hf hi reply => exact .inl (takeResponse_part _ _ s ▸ drainedTo_afterDrainWrite _ reply _)
  | recordWriteAnswered hf reply =>
    exact .inl (.inl ((batchView_fields (afterRecordWrite_batchView _)).1.trans (takeResponse_part _ _ s)))
  | _ => exact .inl (.inl rfl)

/-- A command of one byte completes as its row, or by that byte alone. -/
theorem completes_one_byte {c : Instr} {cmd : SetupCommand} {s : State} (h : Completes c cmd s) (hp : cmd.params = []) :
    c.setupCommand = some cmd ∨ c = .setupByteShifted cmd.code ∧ s.setup.phase = .assembling [] := by
  rcases h with hrow | ⟨b, got, rfl, hphase, hparse⟩
  · exact .inl hrow
  · have hbytes := bytes_of_parseCommand hparse
    rw [SetupCommand.bytes, hp] at hbytes
    obtain ⟨rfl, hb⟩ : got = [] ∧ b = cmd.code := by simpa using List.append_eq_singleton_iff.mp hbytes
    exact .inr ⟨by rw [hb], hphase⟩

theorem eq_engage_of_setupCommand {c : Instr} (h : c.setupCommand = some .engage) : c = .engage := by
  cases c <;> cases h
  rfl

theorem eq_disengage_of_setupCommand {c : Instr} (h : c.setupCommand = some .disengage) : c = .disengage := by
  cases c <;> cases h
  rfl

theorem engages_of_completes {c : Instr} {s : State} (h : Completes c .engage s) :
    c = .engage ∨ c = .setupByteShifted 0x30 ∧ s.setup.phase = .assembling [] :=
  (completes_one_byte h rfl).imp_left eq_engage_of_setupCommand

theorem disengages_of_completes {c : Instr} {s : State} (h : Completes c .disengage s) :
    c = .disengage ∨ c = .setupByteShifted 0x31 ∧ s.setup.phase = .assembling [] :=
  (completes_one_byte h rfl).imp_left eq_disengage_of_setupCommand

/-- Settles O13: of the effects, ENGAGE, DISENGAGE and the resets set the part state, and the end of a drain alone changes
it otherwise. -/
theorem partStateTransitions : Obligations.PartStateTransitions := by
  intro c s t h engages disengages resets
  rcases effect_part (exec_effect h) with (hsame | ⟨hq, hpass, hfree⟩) | ⟨hcmd, hpass, hengaged⟩
    | ⟨hcmd, hengaged, hquiet | ⟨-, hpass, hfree⟩⟩ | ⟨hreset, hpass, hfree⟩
  · rw [hsame]
    cases s.part <;> simp
  · rw [hq, hpass]
    simp [hfree]
  · have hengages : engages := engages_of_completes hcmd
    rw [hpass, hengaged]
    simp [hengages]
  · have hdisengages : disengages := disengages_of_completes hcmd
    rw [hengaged, hquiet]
    simp [hdisengages]
  · have hdisengages : disengages := disengages_of_completes hcmd
    rw [hengaged, hpass]
    simp [hdisengages, hfree]
  · have hresets : resets := hreset
    rw [hpass]
    simp [hresets, hfree]

end Sys2Proof.Machine
end

section
/-! PROOFS. The system view of a word across the grant of a drain write (4.5, R48, R51): the write puts into memory what the
entry that leaves the buffer would have made of it. -/

namespace Sys2Proof.Machine

/-! ### The queue order under changes of other slot fields -/

theorem insertByAge_of_ages {s t : State} (h : ∀ i, slotAge i t = slotAge i s) (i : SlotIx) (l : List SlotIx) :
    insertByAge i t l = insertByAge i s l := by
  induction l with
  | nil => rfl
  | cons j l ih => simp only [insertByAge, ih, h]

/-- The queue order depends on the states and the ages of the slots alone. -/
theorem queueOrder_of_slots {s t : State} (hs : ∀ i, slotState i t = slotState i s)
    (ha : ∀ i, slotAge i t = slotAge i s) : queueOrder t = queueOrder s := by
  have hinsert : (fun i l => insertByAge i t l) = fun i l => insertByAge i s l := by
    funext i l
    exact insertByAge_of_ages ha i l
  simp only [queueOrder, hs, hinsert]

/-- A slot record changed in other fields than state and sequence keeps the ages. -/
theorem slotAge_modSlot {g : Slot → Slot} (hg : ∀ b, (g b).sequence = b.sequence) (i k : SlotIx) (s : State) :
    slotAge k (modSlot i g s) = slotAge k s := by
  have hseq : (slotOf k (modSlot i g s)).sequence = (slotOf k s).sequence := by
    rcases eq_or_ne k i with rfl | hk
    · rw [slotOf_modSlot_same, hg]
    · rw [slotOf_modSlot_ne g s hk]
  rw [slotAge, hseq]
  rfl

theorem queueOrder_modSlot {g : Slot → Slot} (hs : ∀ b, (g b).state = b.state) (hq : ∀ b, (g b).sequence = b.sequence)
    (i : SlotIx) (s : State) : queueOrder (modSlot i g s) = queueOrder s :=
  queueOrder_of_slots (slotState_modSlot_of_state hs i · s) (slotAge_modSlot hq i · s)

theorem queueOrder_countDrained (i : SlotIx) (s : State) : queueOrder (countDrained i s) = queueOrder s :=
  queueOrder_modSlot (g := fun b => { b with entriesDrained := b.entriesDrained + 1 }) (fun _ => rfl) (fun _ => rfl) i s

theorem queueOrder_tornTest (i : SlotIx) (s : State) : queueOrder (tornTest i s) = queueOrder s := by
  unfold tornTest
  split
  · have hmarked := queueOrder_modSlot (g := fun b => { b with torn := true }) (fun _ => rfl) (fun _ => rfl) i s
    exact Eq.trans (b := queueOrder (modSlot i (fun b => { b with torn := true }) s)) (queueOrder_congr rfl) hmarked
  · rfl

/-! ### The entries of a word -/

theorem findEntry_congr {s t : State} (h : t.buf.entries = s.buf.entries) (w : WordAddr) (k : SlotIx) :
    findEntry w k t = findEntry w k s := by
  simp only [findEntry, h]

theorem findEntry_removeEntry_same (w : WordAddr) (i : SlotIx) (s : State) : findEntry w i (removeEntry w i s) = none := by
  simp only [findEntry, removeEntry, List.find?_eq_none, List.mem_filter]
  rintro e ⟨-, hkept⟩ hsame
  rw [hsame] at hkept
  cases hkept

theorem findEntry_removeEntry_ne {w a : WordAddr} {i k : SlotIx} (h : ¬(w = a ∧ k = i)) (s : State) :
    findEntry w k (removeEntry a i s) = findEntry w k s := by
  have hkept : ∀ e : Entry, (e.word == w && e.slot == k) = true → (!(e.word == a && e.slot == i)) = true := by
    intro e he
    simp only [Bool.and_eq_true, beq_iff_eq] at he
    obtain ⟨rfl, rfl⟩ := he
    have hne : (e.word == a && e.slot == i) = false := by
      rw [← Bool.not_eq_true, Bool.and_eq_true, beq_iff_eq, beq_iff_eq]
      exact h
    rw [hne]
    rfl
  simp only [findEntry, removeEntry, List.find?_filter]
  congr 1
  funext e
  cases hp : e.word == w && e.slot == k with
  | false => simp
  | true => simp [hkept e hp]

theorem wordEntries_congr {s t : State} {w : WordAddr} (hb : s.batch = t.batch) (he : s.buf.entries = t.buf.entries) :
    wordEntries w s = wordEntries w t := by
  simp only [wordEntries, queueOrder_congr hb, findEntry, he]

/-- Removing an entry of another word leaves a word's entries. -/
theorem wordEntries_removeEntry_ne {w a : WordAddr} (h : w ≠ a) (i : SlotIx) (s : State) :
    wordEntries w (removeEntry a i s) = wordEntries w s := by
  have hfind : ∀ k, findEntry w k (removeEntry a i s) = findEntry w k s :=
    fun k => findEntry_removeEntry_ne (fun hc => h hc.1) s
  have hqueue : queueOrder (removeEntry a i s) = queueOrder s := queueOrder_congr rfl
  simp only [wordEntries, hqueue, hfind]

/-- Removing the entry of the oldest batch takes the first of a word's entries. -/
theorem wordEntries_removeEntry_head {i : SlotIx} {e : Entry} {s : State} (hhead : (queueOrder s).head? = some i)
    (he : findEntry e.word i s = some e) : wordEntries e.word s = e :: wordEntries e.word (removeEntry e.word i s) := by
  obtain ⟨rest, hrest⟩ := List.head?_eq_some_iff.mp hhead
  have hnodup := queueOrder_nodup s
  rw [hrest] at hnodup
  obtain ⟨hi, -⟩ := List.nodup_cons.mp hnodup
  have hqueue : queueOrder (removeEntry e.word i s) = i :: rest :=
    (queueOrder_congr (s := removeEntry e.word i s) (t := s) rfl).trans hrest
  have hothers : rest.filterMap (fun k => findEntry e.word k (removeEntry e.word i s))
      = rest.filterMap fun k => findEntry e.word k s := by
    refine List.filterMap_congr fun k hk => findEntry_removeEntry_ne ?_ s
    rintro ⟨-, rfl⟩
    exact hi hk
  simp only [wordEntries, hqueue, hrest, List.filterMap_cons, he, findEntry_removeEntry_same, hothers]

/-! ### What the drain write puts into memory -/

/-- A bit outside the lanes of an entry is kept, its keep bit 1 and its flip bit 0 (R33). -/
theorem bits_outside_of_wf {e : Entry} (h : e.wf) {k : Nat} (hk : k < 32) (hl : (laneBits e.lanes).getLsbD k = false) :
    e.xf.keep.getLsbD k = true ∧ e.xf.flip.getLsbD k = false := by
  obtain ⟨-, hr⟩ := h
  have hkeep := congrArg (fun x => x.keep.getLsbD k) hr
  have hflip := congrArg (fun x => x.flip.getLsbD k) hr
  simp only [Transform.restrict, BitVec.getLsbD_or, BitVec.getLsbD_and, BitVec.getLsbD_not, hl, hk, decide_true,
    Bool.not_false, Bool.and_true, Bool.or_true, Bool.and_false] at hkeep hflip
  exact ⟨hkeep.symm, hflip.symm⟩

/-- The word after the drain write is the entry applied to the word before it (R105, R106). -/
theorem drained_word {e : Entry} {readData : Option Word} {v : Word} (h : e.wf)
    (hread : e.xf.keep &&& laneBits e.lanes ≠ 0#32 →
      ∃ d, readData = some d ∧ d &&& laneBits e.lanes = v &&& laneBits e.lanes) :
    (v &&& ~~~laneBits e.lanes) ||| (drainData e readData &&& laneBits e.lanes) = e.xf.apply v := by
  apply BitVec.eq_of_getLsbD_eq
  intro k hk
  simp only [drainData, Transform.apply, BitVec.getLsbD_or, BitVec.getLsbD_and, BitVec.getLsbD_not, BitVec.getLsbD_xor, hk,
    decide_true, Bool.true_and]
  cases hl : (laneBits e.lanes).getLsbD k with
  | false =>
    obtain ⟨hkeep, hflip⟩ := bits_outside_of_wf h hk hl
    simp [hkeep, hflip]
  | true =>
    cases hkeep : e.xf.keep.getLsbD k with
    | false => simp
    | true =>
      have hne : e.xf.keep &&& laneBits e.lanes ≠ 0#32 := by
        intro hz
        have hbit := congrArg (fun x => x.getLsbD k) hz
        simp [hkeep, hl] at hbit
      obtain ⟨d, rfl, hd⟩ := hread hne
      have hbit := congrArg (fun x => x.getLsbD k) hd
      simp only [BitVec.getLsbD_and, hl, Bool.and_true] at hbit
      simp [hbit]

/-! ### The grant -/

theorem exec_arbiterGrant_of_choose {s : State} {r : Requester} (hf : s.inFlight = none) (hr : choose s = some r) :
    exec .arbiterGrant s = .next (grantTo r s) := by
  have hexec : exec .arbiterGrant s = execArbiterGrant s := rfl
  rw [hexec, execArbiterGrant, hf, hr]

/-- A freed place goes to no one where no write waits for one. -/
theorem placeFreed_of_waitsForNoPlace {s : State} (h : waitsForNoPlace s) : placeFreed s = s := by
  rcases placeFreed_cases s with heq | ⟨w, hw, -, ⟨hp, -⟩ | ⟨hp, -⟩⟩
  · exact heq
  · exact absurd hp (h w hw).1
  · exact absurd hp (h w hw).2

theorem drainRequest_of_write {s : State} {e : Entry} (he : s.drain.entry = some e) (ha : s.drain.access = .writeRequested) :
    drainRequest s
      = some { kind := .drainWrite, word := e.word, lanes := e.lanes, data := drainData e s.drain.readData } := by
  simp only [drainRequest, he, ha]

theorem grantTo_drain {s : State} {q : MemRequest} (h : drainRequest s = some q) :
    grantTo .drain s = grantDrain (putInFlight q { s with waits := waitsAfter .drain s }) := by
  simp only [grantTo, h]

theorem grantDrain_of_write {s : State} {i : SlotIx} {e : Entry} (hi : s.drain.current = some i)
    (he : s.drain.entry = some e) (ha : s.drain.access = .writeRequested) :
    grantDrain s = grantDrainWrite i e s := by
  simp only [grantDrain, hi, he, ha, if_true]

/-- The state of a granted drain write before its freed place is given away. -/
def drainedState (i : SlotIx) (e : Entry) (s : State) : State :=
  removeEntry e.word i (tornTest i (countDrained i { s with drain.access := .writeInFlight }))

theorem busView_tornTest_countDrained (i : SlotIx) (s : State) :
    busView (tornTest i (countDrained i { s with drain.access := .writeInFlight })) = busView s :=
  (busView_tornTest _ _).trans rfl

theorem drainedState_sys (i : SlotIx) (e : Entry) (s : State) : (drainedState i e s).sys = s.sys :=
  (busView_fields (busView_tornTest_countDrained i s)).2

/-- Only the entry that leaves changes what a word is composed of. -/
theorem wordEntries_drainedState (i : SlotIx) (e : Entry) (w : WordAddr) (s : State) :
    wordEntries w (drainedState i e s) = wordEntries w (removeEntry e.word i s) := by
  have hqueue : queueOrder (drainedState i e s) = queueOrder (removeEntry e.word i s) :=
    calc queueOrder (drainedState i e s)
        = queueOrder (tornTest i (countDrained i { s with drain.access := .writeInFlight })) := queueOrder_congr rfl
      _ = queueOrder { s with drain.access := .writeInFlight } :=
          (queueOrder_tornTest _ _).trans (queueOrder_countDrained _ _)
      _ = queueOrder (removeEntry e.word i s) := queueOrder_congr rfl
  have hentries : (drainedState i e s).buf.entries = (removeEntry e.word i s).buf.entries := by
    have hview := entries_of_busView (busView_tornTest_countDrained i s)
    exact congrArg (List.filter fun x => !(x.word == e.word && x.slot == i)) hview
  simp only [wordEntries, hqueue, findEntry_congr hentries]

theorem systemView_eq (m : Frame) (s : State) (w : WordAddr) :
    systemView m s w = (wordEntries w s).foldl (fun a e => e.xf.apply a) (m w) := composed_apply w s (m w)

/-- The state in which a drain write has gone in flight. -/
def drainWriteAsked (e : Entry) (s : State) : State :=
  putInFlight { kind := .drainWrite, word := e.word, lanes := e.lanes, data := drainData e s.drain.readData }
    { s with waits := waitsAfter .drain s }

theorem grantTo_drainWrite {s : State} {i : SlotIx} {e : Entry} (hi : s.drain.current = some i)
    (he : s.drain.entry = some e) (ha : s.drain.access = .writeRequested) :
    grantTo .drain s = placeFreed (drainedState i e (drainWriteAsked e s)) := by
  rw [grantTo_drain (drainRequest_of_write he ha)]
  exact grantDrain_of_write (s := drainWriteAsked e s) hi he ha

theorem Frame.perform_of_isWrite {q : MemRequest} (h : q.kind.isWrite = true) (m : Frame) :
    m.perform q = m.write q.word q.lanes q.data := if_pos h

theorem Frame.write_same (m : Frame) (w : WordAddr) (l : LaneMask) (d : Word) :
    m.write w l d w = (m w &&& ~~~laneBits l) ||| (d &&& laneBits l) := if_pos rfl

theorem Frame.write_ne {a w : WordAddr} (h : a ≠ w) (m : Frame) (l : LaneMask) (d : Word) : m.write w l d a = m a :=
  if_neg h

/-- Settles O15: the entry that leaves is the first of its word's, and the memory write has the effect of applying it. -/
theorem drainGrantKeepsSystemView : Obligations.DrainGrantKeepsSystemView := by
  intro m s t i e q hwf hwait hf hchoose hi he ha hq hfind hhead hread hgrant w
  obtain rfl : q = { kind := .drainWrite, word := e.word, lanes := e.lanes, data := drainData e s.drain.readData } :=
    Option.some.inj (hq.symm.trans (drainRequest_of_write he ha))
  have hnoplace : waitsForNoPlace (drainedState i e (drainWriteAsked e s)) := by
    intro v hv
    rw [drainedState_sys] at hv
    exact hwait v hv
  rw [exec_arbiterGrant_of_choose hf hchoose, grantTo_drainWrite hi he ha, placeFreed_of_waitsForNoPlace hnoplace] at hgrant
  cases hgrant
  have hasked : wordEntries w (removeEntry e.word i (drainWriteAsked e s)) = wordEntries w (removeEntry e.word i s) :=
    wordEntries_congr rfl rfl
  have hentries := (wordEntries_drainedState i e w (drainWriteAsked e s)).trans hasked
  rw [systemView_eq, systemView_eq, hentries, Frame.perform_of_isWrite rfl]
  by_cases hw : w = e.word
  · subst hw
    have hentry : e.wf := hwf.1 e (List.mem_of_find?_eq_some hfind)
    rw [wordEntries_removeEntry_head hhead hfind, List.foldl_cons, ← drained_word hentry hread, Frame.write_same]
  · rw [wordEntries_removeEntry_ne hw, Frame.write_ne hw]

end Sys2Proof.Machine
end

section
/-! PROOFS. The lanes of a write (chapters 1, 2 and 4): the class of a lane by Table 4-1, membership of a window, resolution
and the key compare. -/

namespace Sys2Proof.Machine

/-! ### The class of a lane (R57, R18) -/

theorem laneWork_of_disabled {lanes : LaneMask} {i : LaneIx} (h : hasLane lanes i = false) (s : State) (word : WordAddr)
    (data : Word) (held : LaneMask) : laneWork s word lanes data held i = LaneWork.idle := by
  simp [laneWork, h]

theorem laneWork_of_no_window {s : State} {word : WordAddr} {lanes : LaneMask} {i : LaneIx} (h : hasLane lanes i = true)
    (hr : resolve s (bytePosition word i) = none) (data : Word) (held : LaneMask) :
    laneWork s word lanes data held i =
      { cls := if hasLane held i then .carried else .plain, keep := 0x00, flip := laneByte data i,
        deferrable := hasLane held i } := by
  simp [laneWork, h, hr]

theorem laneWork_of_keyed {s : State} {word : WordAddr} {lanes : LaneMask} {data : Word} {i : LaneIx} {w : Window}
    (h : hasLane lanes i = true) (hr : resolve s (bytePosition word i) = some w) (hk : w.keyMatches lanes data i = true)
    (held : LaneMask) :
    laneWork s word lanes data held i =
      { cls := .keyedOut, keep := 0xFF, flip := 0x00, deferrable := hasLane held i || w.mode == .defer } := by
  simp [laneWork, h, hr, hk]

/-- A lane is deferrable when it is enabled and held, or enabled and resolved to a DEFER window (R70). -/
theorem deferrable_iff (s : State) (word : WordAddr) (lanes : LaneMask) (data : Word) (held : LaneMask) (i : LaneIx) :
    (laneWork s word lanes data held i).deferrable = true ↔
      hasLane lanes i = true
        ∧ (hasLane held i = true ∨ ∃ w, resolve s (bytePosition word i) = some w ∧ w.mode = .defer) := by
  cases hl : hasLane lanes i with
  | false => simp [laneWork_of_disabled hl, LaneWork.idle]
  | true =>
    cases hr : resolve s (bytePosition word i) with
    | none => simp [laneWork_of_no_window hl hr]
    | some w =>
      cases hk : w.keyMatches lanes data i with
      | true => simp [laneWork_of_keyed hl hr hk]
      | false => simp [laneWork_of_window hl hr hk]

/-- Settles O19: each row of the table is a branch of the lane's work, and a held lane is one of some entry's. -/
theorem laneClassTable : Obligations.LaneClassTable := by
  refine ⟨⟨fun _ _ => rfl, fun v i k hk => getLsbD_laneByte v i k hk, fun m i => laneByte_laneBits m i, fun _ _ => rfl, rfl⟩,
    fun s word lanes data held i => ⟨fun hl => ?idle, fun hl hr => ?unresolved, fun w hl hr => ⟨fun hk => ?keyed, fun hk => ?window⟩⟩,
    deferrable_iff, fun s word i => hasLane_heldLanes word s i⟩
  case idle => simp [laneWork_of_disabled hl, LaneWork.idle]
  case unresolved => simp [laneWork_of_no_window hl hr]
  case keyed => simp [laneWork_of_keyed hl hr hk]
  case window => simp [laneWork_of_window hl hr hk]

/-! ### Membership and resolution (R3, R13) -/

theorem contains_of_tall {w : Window} (h : 1 < w.height.toNat) (b : Nat) :
    w.contains b = true ↔
      w.origin ≤ b ∧ (b - w.origin) % w.lineBytes < w.width.toNat ∧ (b - w.origin) / w.lineBytes < w.height.toNat := by
  simp [Window.contains, h, and_assoc]

theorem contains_of_flat {w : Window} (h : w.height.toNat ≤ 1) (b : Nat) :
    w.contains b = true ↔ w.origin ≤ b ∧ b < w.origin + w.width.toNat := by
  simp [Window.contains, Nat.not_lt.mpr h]

theorem covers_iff (w : Window) (word : WordAddr) :
    w.covers word = true ↔ ∃ i : LaneIx, w.contains (bytePosition word i) = true := by
  constructor
  · intro h
    simp only [Window.covers, Bool.or_eq_true] at h
    rcases h with ((h | h) | h) | h
    · exact ⟨0, h⟩
    · exact ⟨1, h⟩
    · exact ⟨2, h⟩
    · exact ⟨3, h⟩
  · rintro ⟨i, hi⟩
    exact covers_of_contains hi

/-- A window resolves a byte when it is enabled and contains it. -/
def takesByte (s : State) (b : Nat) (j : Fin 16) : Prop :=
  (windowAt j s).enabled = true ∧ (windowAt j s).contains b = true

theorem not_takesByte_iff (s : State) (b : Nat) (j : Fin 16) :
    ¬takesByte s b j ↔ (!((windowAt j s).enabled && (windowAt j s).contains b)) = true := by
  rw [takesByte, Bool.not_eq_true', ← Bool.not_eq_true, Bool.and_eq_true]

theorem resolve_eq_some_iff (s : State) (b : Nat) (w : Window) :
    resolve s b = some w ↔ ∃ i : Fin 16, windowAt i s = w ∧ takesByte s b i ∧ ∀ j, j < i → ¬takesByte s b j := by
  unfold resolve
  rw [List.find?_eq_some_iff_getElem]
  constructor
  · rintro ⟨hp, k, hk, rfl, hbefore⟩
    have hk16 : k < 16 := by simpa using hk
    refine ⟨⟨k, hk16⟩, rfl, by simpa [takesByte, windowAt] using hp, fun j hj => ?_⟩
    have hno := hbefore j.val hj
    rw [not_takesByte_iff]
    simpa [windowAt] using hno
  · rintro ⟨i, rfl, hi, hbefore⟩
    refine ⟨by simpa [takesByte, windowAt] using hi, i.val, by simp, by simp [windowAt], fun j hj => ?_⟩
    have hno := hbefore ⟨j, hj.trans i.isLt⟩ hj
    rw [not_takesByte_iff] at hno
    simpa [windowAt] using hno

theorem resolve_eq_none_iff (s : State) (b : Nat) : resolve s b = none ↔ ∀ j, ¬takesByte s b j := by
  unfold resolve
  rw [List.find?_eq_none]
  constructor
  · intro h j hj
    refine h (windowAt j s) (Vector.mem_toList_iff.mpr (Vector.getElem_mem j.isLt)) ?_
    simpa [takesByte] using hj
  · intro h w hw hp
    obtain ⟨k, hk, rfl⟩ := Vector.mem_iff_getElem.mp (Vector.mem_toList_iff.mp hw)
    refine h ⟨k, hk⟩ ?_
    simpa [takesByte, windowAt] using hp

/-! ### The key compare (R24, R25) -/

/-- A compare under the bits of a width is a compare of the low parts. -/
theorem and_lowBits_eq_iff {n : Nat} (hn : n ≤ 32) (x : BitVec n) (v m ones : Word)
    (hones : ∀ k, k < 32 → ones.getLsbD k = decide (k < n)) :
    x.setWidth 32 &&& m &&& ones = v &&& m &&& ones ↔
      x &&& m.extractLsb' 0 n = v.extractLsb' 0 n &&& m.extractLsb' 0 n := by
  constructor
  · intro h
    apply BitVec.eq_of_getLsbD_eq
    intro k hk
    have hbit := congrArg (fun y => y.getLsbD k) h
    simp only [BitVec.getLsbD_and, BitVec.getLsbD_setWidth, hones k (by omega), hk, decide_true, Bool.and_true,
      (by omega : k < 32), Bool.true_and] at hbit
    simpa only [BitVec.getLsbD_and, BitVec.getLsbD_extractLsb', hk, decide_true, Bool.true_and, Nat.zero_add] using hbit
  · intro h
    apply BitVec.eq_of_getLsbD_eq
    intro k hk
    simp only [BitVec.getLsbD_and, BitVec.getLsbD_setWidth, hones k hk, hk, decide_true, Bool.true_and]
    by_cases hkn : k < n
    · have hbit := congrArg (fun y => y.getLsbD k) h
      simp only [BitVec.getLsbD_and, BitVec.getLsbD_extractLsb', hkn, decide_true, Bool.true_and, Nat.zero_add] at hbit
      simp only [hkn, decide_true, Bool.and_true]
      exact hbit
    · simp [hkn]

theorem keyMatches_iff (w : Window) (lanes : LaneMask) (data : Word) (i : LaneIx) :
    w.keyMatches lanes data i = true ↔
      w.keyEnable = true ∧ lanes &&& pixelLanes w.format i = pixelLanes w.format i
        ∧ pixelValue w.format i data &&& w.keyMask &&& pixelBits w.format = w.keyValue &&& w.keyMask &&& pixelBits w.format := by
  simp only [Window.keyMatches, Bool.and_eq_true, beq_iff_eq, and_assoc]

/-- The lanes of a 8-bit pixel: its own. -/
theorem pixelLanes_p8_iff (lanes : LaneMask) (i : LaneIx) :
    lanes &&& pixelLanes .p8 i = pixelLanes .p8 i ↔ hasLane lanes i = true := by
  revert lanes i
  decide

/-- The lanes of a 16-bit pixel: the two of its half of the word. -/
theorem pixelLanes_p16_iff (lanes : LaneMask) (i : LaneIx) :
    lanes &&& pixelLanes .p16 i = pixelLanes .p16 i ↔
      hasLane lanes (if i.val < 2 then 0 else 2) = true ∧ hasLane lanes (if i.val < 2 then 1 else 3) = true := by
  revert lanes i
  decide

/-- The lanes of a 32-bit pixel: all four. -/
theorem pixelLanes_p32_iff (lanes : LaneMask) (i : LaneIx) :
    lanes &&& pixelLanes .p32 i = pixelLanes .p32 i ↔ lanes = 0xF#4 := by
  revert lanes i
  decide

theorem pixelValue_p16 (data : Word) (i : LaneIx) :
    pixelValue .p16 i data
      = (laneByte data (if i.val < 2 then 1 else 3) ++ laneByte data (if i.val < 2 then 0 else 2)).setWidth 32 := by
  unfold pixelValue laneByte
  dsimp only
  split
  · rw [BitVec.extractLsb'_append_extractLsb'_eq_extractLsb' (by rfl)]
    rfl
  · rw [BitVec.extractLsb'_append_extractLsb'_eq_extractLsb' (by rfl)]
    rfl

theorem keyMatches_p8 {w : Window} (h : w.format = .p8) (lanes : LaneMask) (data : Word) (i : LaneIx) :
    w.keyMatches lanes data i = true ↔ w.keyEnable = true ∧ hasLane lanes i = true
      ∧ laneByte data i &&& w.keyMask.extractLsb' 0 8 = w.keyValue.extractLsb' 0 8 &&& w.keyMask.extractLsb' 0 8 := by
  rw [keyMatches_iff, h, pixelLanes_p8_iff]
  exact and_congr_right fun _ => and_congr_right fun _ => and_lowBits_eq_iff (by decide) _ _ _ _ (by decide)

theorem keyMatches_p16 {w : Window} (h : w.format = .p16) (lanes : LaneMask) (data : Word) (i : LaneIx) :
    w.keyMatches lanes data i = true ↔
      w.keyEnable = true ∧ hasLane lanes (if i.val < 2 then 0 else 2) = true
        ∧ hasLane lanes (if i.val < 2 then 1 else 3) = true
        ∧ (laneByte data (if i.val < 2 then 1 else 3) ++ laneByte data (if i.val < 2 then 0 else 2))
            &&& w.keyMask.extractLsb' 0 16 = w.keyValue.extractLsb' 0 16 &&& w.keyMask.extractLsb' 0 16 := by
  rw [keyMatches_iff, h, pixelLanes_p16_iff, pixelValue_p16, and_assoc]
  exact and_congr_right fun _ => and_congr_right fun _ => and_congr_right fun _ =>
    and_lowBits_eq_iff (n := 16) (by decide) _ _ _ _ (by decide)

theorem keyMatches_p32 {w : Window} (h : w.format = .p32) (lanes : LaneMask) (data : Word) (i : LaneIx) :
    w.keyMatches lanes data i = true ↔
      w.keyEnable = true ∧ lanes = 0xF#4 ∧ data &&& w.keyMask = w.keyValue &&& w.keyMask := by
  have hones (x : Word) : x &&& pixelBits .p32 = x := BitVec.and_allOnes
  rw [keyMatches_iff, h, pixelLanes_p32_iff, hones, hones]
  rfl

/-- Settles O20: the cases of membership, the first window that takes a byte, and the compare of each format. -/
theorem windowMembershipResolutionAndKey : Obligations.WindowMembershipResolutionAndKey := by
  refine ⟨fun w b => ⟨fun h => contains_of_tall h b, fun h => contains_of_flat h b⟩, covers_iff, fun s b => ⟨fun w => ?_, ?_⟩,
    fun w lanes data i => ⟨fun h => keyMatches_p8 h lanes data i, fun h => keyMatches_p16 h lanes data i,
      fun h => keyMatches_p32 h lanes data i⟩⟩
  · rw [resolve_eq_some_iff]
    simp only [takesByte]
    refine exists_congr fun i => and_congr_right ?_
    rintro rfl
    exact and_assoc
  · exact resolve_eq_none_iff s b

end Sys2Proof.Machine
end

section
/-! PROOFS. The setup commands that answer or set one thing (10.2, 10.4, 10.5, chapters 1 and 8): the registers, the
settings, the windows, the watched words and the ring. -/

namespace Sys2Proof.Machine

/-! ### A row of a ready port (R161, R163) -/

theorem exec_ready {i : Instr} {c : SetupCommand} {s : State} (hi : i.setupCommand = some c) (h : portReady c.bytes s) :
    exec i s = .next (execute (runCommand c) s) := by
  rw [exec_of_setupCommand hi, deliver_ready h]

theorem exec_refused {i : Instr} {c : SetupCommand} {s : State} {code : ResultCode} (hi : i.setupCommand = some c)
    (h : portReady c.bytes s) (hrun : runCommand c s = refuse code s) :
    exec i s = .next (executed code.byte [] s) := by
  rw [exec_ready hi h, execute_refused hrun]

theorem exec_accepted {i : Instr} {c : SetupCommand} {s t : State} (hi : i.setupCommand = some c)
    (h : portReady c.bytes s) (hrun : runCommand c s = accept t) : exec i s = .next (executed 0x00 [] t) := by
  rw [exec_ready hi h, execute_accepted hrun]

theorem exec_answered {i : Instr} {c : SetupCommand} {s t : State} {data : List Byte} (hi : i.setupCommand = some c)
    (h : portReady c.bytes s) (hrun : runCommand c s = answerWith data t) :
    exec i s = .next (executed 0x00 data t) := by
  rw [exec_ready hi h, execute_answered hrun]

/-! ### STATUS, EVENTS, CLEAR, MASK and IRQn -/

theorem slotStatus_length (b : Slot) : (slotStatus b).length = 6 := by
  unfold slotStatus
  split <;> rfl

theorem openStatus_length (s : State) : (openStatus s).length = 3 := by
  unfold openStatus
  split <;> rfl

theorem statusData_length (s : State) : (statusData s).length = 40 := by
  simp only [statusData, List.length_append, slotStatus_length, openStatus_length]
  rfl

/-- A byte is not 0 when one of its bits is 1. -/
theorem byte_ne_zero_iff (b : Byte) : b ≠ 0#8 ↔ ∃ k, k < 8 ∧ b.getLsbD k = true := by
  constructor
  · intro h
    by_contra hno
    refine h (BitVec.eq_of_getLsbD_eq fun k hk => ?_)
    rw [BitVec.getLsbD_zero, ← Bool.not_eq_true]
    exact fun hb => hno ⟨k, hk, hb⟩
  · rintro ⟨k, -, hb⟩ rfl
    rw [BitVec.getLsbD_zero] at hb
    cases hb

/-- IRQn is low while a flag is set whose mask bit is 1 (R174). -/
theorem irqLow_iff {s : State} (h : s.resetn = true) :
    irqLow s = true ↔ ∃ k, k < 8 ∧ s.ev.flags.getLsbD k = true ∧ s.cfg.mask.getLsbD k = true := by
  simp only [irqLow, h, Bool.true_and, bne_iff_ne, byte_ne_zero_iff, BitVec.getLsbD_and, Bool.and_eq_true]

/-- Settles O28: the response bytes are those of the table, and each of the three registers is one field. -/
theorem statusAndEventRegisters : Obligations.StatusAndEventRegisters := by
  refine ⟨fun s hready => ⟨exec_answered (c := .status) rfl hready rfl, statusData_length s⟩, fun v s => ⟨fun hready => ?events,
    fun hready => ?clear, fun hready => ?mask, irqLow_iff⟩⟩
  case events => exact exec_answered (c := .events) rfl hready rfl
  case clear => exact exec_accepted (c := .clear v) rfl hready rfl
  case mask => exact exec_accepted (c := .mask v) rfl hready rfl

/-! ### COUNTERS and ERRINFO -/

theorem clearErrinfo_of_none {s : State} (h : s.ev.errinfo = none) : { s with ev.errinfo := none } = s := by
  rw [← h]

/-- Settles O29: the option byte selects among three answers, and ERRINFO answers what it holds. -/
theorem countersAndErrinfoAnswer : Obligations.CountersAndErrinfoAnswer := by
  refine ⟨fun option s => ⟨fun hready => ?read, fun hready => ?cleared, fun h0 h1 hready => ?refused⟩,
    fun s hready => ⟨fun hnone => ?empty, fun e he => ?recorded⟩, ⟨rfl, rfl, rfl, rfl⟩,
    ⟨rfl, rfl, rfl, rfl, rfl, rfl, rfl⟩, rfl, rfl, rfl, rfl, rfl, rfl, rfl⟩
  case read => exact exec_answered (c := .counters 0x00) rfl hready rfl
  case cleared => exact exec_answered (c := .counters 0x01) rfl hready rfl
  case refused =>
    refine exec_refused (c := .counters option) (code := .range) rfl hready ?_
    simp only [runCommand, cmdCounters, if_neg h0, if_neg h1]
  case empty =>
    refine exec_answered (c := .errinfo) rfl hready ?_
    simp only [runCommand, cmdErrinfo, errinfoData, hnone]
    rw [clearErrinfo_of_none hnone]
  case recorded =>
    refine exec_answered (c := .errinfo) rfl hready ?_
    simp only [runCommand, cmdErrinfo, errinfoData, he]
    rfl

/-! ### STALL, ARBITRATION, SOFT_RESET, SYNC and TICK -/

theorem cmdSync_of_not_pass {s : State} (h : s.part ≠ .pass) (v : Byte) : cmdSync v s = refuse .state s := if_pos h

theorem cmdSync_of_pass {s : State} (h : s.part = .pass) (v : Byte) :
    cmdSync v s =
      match sourceOfByte v with
      | none => refuse .range s
      | some x => accept { s with cfg.source := x, sync.blanking := blankingFromPin x s.blank } :=
  if_neg (not_not_intro h)

theorem sourceOfByte_of_large {v : Byte} (h : 2 < v.toNat) : sourceOfByte v = none := by
  have h0 : v ≠ 0x00#8 := by rintro rfl; exact absurd h (by decide)
  have h1 : v ≠ 0x01#8 := by rintro rfl; exact absurd h (by decide)
  have h2 : v ≠ 0x02#8 := by rintro rfl; exact absurd h (by decide)
  simp only [sourceOfByte, if_neg h0, if_neg h1, if_neg h2]

theorem cmdTick_of_not_pass {s : State} (h : s.part ≠ .pass) (v : Byte) : cmdTick v s = refuse .state s := if_pos h

theorem cmdTick_of_pass {s : State} (h : s.part = .pass) (v : Byte) :
    cmdTick v s = if v = 0#8 then refuse .range s else accept { s with cfg.tick := v, sync.clkCycles := 0 } :=
  if_neg (not_not_intro h)

/-- Settles O30: each command has one branch for each of the cases. -/
theorem settingsCommands : Obligations.SettingsCommands := by
  refine ⟨fun limit v s => ⟨fun hready => ?stall, fun hready => ?share, fun hready => ?soft⟩,
    fun v s => ⟨fun hready => ⟨fun hp => ?syncState, fun hp hv => ?syncRange, fun hp hv => ?high, fun hp hv => ?low,
      fun hp hv => ?immediate⟩, fun hready => ⟨fun hp => ?tickState, fun hp hv => ?tickRange, fun hp hv => ?tick⟩⟩⟩
  case stall => exact exec_accepted (c := .stall limit) rfl hready rfl
  case share =>
    split
    · rename_i hv
      exact exec_accepted (c := .arbitration v) rfl hready (if_pos hv)
    · rename_i hv
      exact exec_refused (c := .arbitration v) (code := .range) rfl hready (if_neg hv)
  case soft => exact exec_accepted (c := .softReset) rfl hready rfl
  case syncState => exact exec_refused (c := .sync v) (code := .state) rfl hready (cmdSync_of_not_pass hp v)
  case syncRange =>
    refine exec_refused (c := .sync v) (code := .range) rfl hready ((cmdSync_of_pass hp v).trans ?_)
    rw [sourceOfByte_of_large hv]
  case high =>
    subst hv
    exact exec_accepted (c := .sync 0x00) rfl hready (cmdSync_of_pass hp 0x00)
  case low =>
    subst hv
    exact exec_accepted (c := .sync 0x01) rfl hready (cmdSync_of_pass hp 0x01)
  case immediate =>
    subst hv
    exact exec_accepted (c := .sync 0x02) rfl hready (cmdSync_of_pass hp 0x02)
  case tickState => exact exec_refused (c := .tick v) (code := .state) rfl hready (cmdTick_of_not_pass hp v)
  case tickRange => exact exec_refused (c := .tick v) (code := .range) rfl hready ((cmdTick_of_pass hp v).trans (if_pos hv))
  case tick => exact exec_accepted (c := .tick v) rfl hready ((cmdTick_of_pass hp v).trans (if_neg hv))

/-! ### WIN_WRITE and WIN_READ -/

theorem cmdWinWrite_of_ge {p : WinParams} (h : 16 ≤ p.index.toNat) (s : State) : cmdWinWrite p s = refuse .range s := by
  simp only [cmdWinWrite, windowIndex_of_ge h]

theorem cmdWinWrite_of_enabled {p : WinParams} {i : Fin 16} {s : State} (hi : p.index.toNat = i.val)
    (he : (windowAt i s).enabled = true) : cmdWinWrite p s = refuse .busy s := by
  simp only [cmdWinWrite, windowIndex_of_toNat_eq hi, he, if_true]

theorem cmdWinWrite_of_illegal {p : WinParams} {i : Fin 16} {s : State} (hi : p.index.toNat = i.val)
    (he : (windowAt i s).enabled = false) (hw : windowOfParams p = none) : cmdWinWrite p s = refuse .range s := by
  simp only [cmdWinWrite, windowIndex_of_toNat_eq hi, he, Bool.false_eq_true, if_false, hw]

theorem cmdWinWrite_of_legal {p : WinParams} {i : Fin 16} {s : State} {w : Window} (hi : p.index.toNat = i.val)
    (he : (windowAt i s).enabled = false) (hw : windowOfParams p = some w) :
    cmdWinWrite p s = accept (setWindow i w s) := by
  simp only [cmdWinWrite, windowIndex_of_toNat_eq hi, he, Bool.false_eq_true, if_false, hw]

/-- The format of a size byte. -/
def formatOfSize (b : Byte) : Format := if b.toNat = 1 then .p8 else if b.toNat = 2 then .p16 else .p32

theorem formatOfByte_eq (b : Byte) :
    formatOfByte b = if b.toNat = 1 ∨ b.toNat = 2 ∨ b.toNat = 4 then some (formatOfSize b) else none := by
  revert b
  decide

theorem formatOfSize_size {b : Byte} (h : b.toNat = 1 ∨ b.toNat = 2 ∨ b.toNat = 4) : (formatOfSize b).size = b.toNat := by
  rcases h with h | h | h <;> simp [formatOfSize, Format.size, h]

theorem modeOfByte_eq (b : Byte) :
    modeOfByte b = if b.toNat ≤ 1 then some (if b = 0x00#8 then .direct else .defer) else none := by
  revert b
  decide

theorem boolOfByte_eq (b : Byte) : boolOfByte b = if b.toNat ≤ 1 then some (b == 0x01#8) else none := by
  revert b
  decide

/-- The checks of R6 on the geometry. -/
def shapeLegal (size originWord originLane width height pitch : Nat) : Prop :=
  originLane < 4 ∧ originLane % size = 0 ∧ 1 ≤ width ∧ width ≤ 8192 ∧ width % size = 0 ∧ 1 ≤ height ∧ height ≤ 4096
    ∧ 1 ≤ pitch ∧ (1 < height → width ≤ 4 * pitch)
    ∧ 4 * originWord + originLane + (height - 1) * 4 * pitch + width - 1 < 67108864

theorem legalShape_iff (size originWord originLane width height pitch : Nat) :
    legalShape size originWord originLane width height pitch = true ↔
      shapeLegal size originWord originLane width height pitch := by
  have hline : height ≤ 1 ∨ width ≤ 4 * pitch ↔ (1 < height → width ≤ 4 * pitch) := by
    rw [← Nat.not_lt, ← imp_iff_not_or]
  simp only [legalShape, shapeLegal, Bool.and_eq_true, Bool.or_eq_true, decide_eq_true_eq, hline, and_assoc]
  rfl

/-- A window of parameters that pass every check of R6. -/
theorem windowOfParams_of_legal {p : WinParams} (hf : p.format.toNat = 1 ∨ p.format.toNat = 2 ∨ p.format.toNat = 4)
    (hm : p.mode.toNat ≤ 1) (hk : p.keyEnable.toNat ≤ 1) (hr : p.raster.toNat ≤ 15)
    (hs : shapeLegal p.format.toNat p.originWord.toNat p.originLane.toNat p.width.toNat p.height.toNat p.pitch.toNat) :
    windowOfParams p = some
      { enabled := false, originWord := p.originWord, originLane := p.originLane.setWidth 2, width := p.width,
        height := p.height, pitch := p.pitch, format := formatOfSize p.format,
        mode := if p.mode = 0x00#8 then .direct else .defer, raster := p.raster.setWidth 4,
        keyEnable := p.keyEnable == 0x01#8, keyValue := p.keyValue, keyMask := p.keyMask } := by
  have hr16 : p.raster.toNat < 16 := by omega
  have hshape := (legalShape_iff _ _ _ _ _ _).mpr hs
  simp only [windowOfParams, formatOfByte_eq, if_pos hf, modeOfByte_eq, if_pos hm, boolOfByte_eq, if_pos hk,
    formatOfSize_size hf, hshape, hr16, decide_true, Bool.and_self, if_true, BitVec.setWidth_eq_extractLsb' (by decide : 2 ≤ 8),
    BitVec.setWidth_eq_extractLsb' (by decide : 4 ≤ 8)]

/-- Parameters that fail a check of R6 give no window. -/
theorem windowOfParams_eq_none {p : WinParams}
    (h : ¬((p.format.toNat = 1 ∨ p.format.toNat = 2 ∨ p.format.toNat = 4)
      ∧ shapeLegal p.format.toNat p.originWord.toNat p.originLane.toNat p.width.toNat p.height.toNat p.pitch.toNat
      ∧ p.mode.toNat ≤ 1 ∧ p.raster.toNat ≤ 15 ∧ p.keyEnable.toNat ≤ 1)) : windowOfParams p = none := by
  unfold windowOfParams
  rw [formatOfByte_eq, modeOfByte_eq, boolOfByte_eq]
  by_cases hf : p.format.toNat = 1 ∨ p.format.toNat = 2 ∨ p.format.toNat = 4
  · by_cases hm : p.mode.toNat ≤ 1
    · by_cases hk : p.keyEnable.toNat ≤ 1
      · rw [if_pos hf, if_pos hm, if_pos hk]
        dsimp only
        refine if_neg fun hc => h ?_
        rw [Bool.and_eq_true, legalShape_iff, decide_eq_true_eq, formatOfSize_size hf] at hc
        exact ⟨hf, hc.1, hm, by omega, hk⟩
      · rw [if_pos hf, if_pos hm, if_neg hk]
    · rw [if_pos hf, if_neg hm]
  · rw [if_neg hf]

theorem window_legal_iff (w : Window) :
    w.legal = true ↔
      shapeLegal w.format.size w.originWord.toNat w.originLane.toNat w.width.toNat w.height.toNat w.pitch.toNat :=
  legalShape_iff _ _ _ _ _ _

/-- Settles O31: the parameter bytes are checked one by one, and the response is the table's. -/
theorem winWriteAndWinRead : Obligations.WinWriteAndWinRead := by
  refine ⟨fun p s hready => ⟨fun hv => ?index, fun i hi => ⟨fun he => ?busy, fun he hno => ?range, fun he hyes => ?stored⟩⟩,
    fun v s hready => ⟨fun hv => ?readRange, fun i hi => ?read⟩, ⟨rfl, rfl, rfl, rfl, rfl⟩, fun _ _ => rfl, fun w => ?legal⟩
  case index => exact exec_refused (c := .winWrite p) (code := .range) rfl hready (cmdWinWrite_of_ge hv s)
  case busy => exact exec_refused (c := .winWrite p) (code := .busy) rfl hready (cmdWinWrite_of_enabled hi he)
  case range =>
    refine exec_refused (c := .winWrite p) (code := .range) rfl hready
      (cmdWinWrite_of_illegal hi he (windowOfParams_eq_none ?_))
    rintro ⟨hf, ⟨hlane, hlaneMod, hw1, hw2, hwMod, hh1, hh2, hp, hline, htop⟩, hm, hr, hk⟩
    exact hno ⟨hf, by omega, hlaneMod, hw1, hw2, hwMod, hh1, hh2, hp, hline, htop, hm, hr, hk⟩
  case stored =>
    obtain ⟨hf, hlane, hlaneMod, hw1, hw2, hwMod, hh1, hh2, hp, hline, htop, hm, hr, hk⟩ := hyes
    exact exec_accepted (c := .winWrite p) rfl hready (cmdWinWrite_of_legal hi he
      (windowOfParams_of_legal hf hm hk hr ⟨by omega, hlaneMod, hw1, hw2, hwMod, hh1, hh2, hp, hline, htop⟩))
  case readRange =>
    refine exec_refused (c := .winRead v) (code := .range) rfl hready ?_
    simp only [runCommand, cmdWinRead, windowIndex_of_ge hv]
  case read => exact exec_winRead_of_index hready hi
  case legal =>
    have hlane : w.originLane.toNat < 4 := w.originLane.isLt
    rw [window_legal_iff]
    cases hf : w.format <;> simp only [shapeLegal, Format.size, hlane, true_and]

/-! ### WIN_ENABLE -/

theorem cmdWinEnable_of_index {v : Byte} {i : Fin 16} (h : v.toNat = i.val) (s : State) :
    cmdWinEnable v s =
      if (windowAt i s).enabled then accept s
      else if (protectedWords s.cfg).any (windowAt i s).covers then refuse .conflict s
      else accept (setWindow i { windowAt i s with enabled := true } s) := by
  simp only [cmdWinEnable, windowIndex_of_toNat_eq h]

/-- Settles O32: WIN_ENABLE has one branch for each check, and the protected words are the watched ones and the ring's. -/
theorem winEnableChecks : Obligations.WinEnableChecks := by
  refine ⟨fun v s hready => ⟨fun hv => ?range, fun i hi => ⟨fun he => ?already, fun he ⟨a, ha, hc⟩ => ?conflict,
    fun he hno => ?enabled⟩⟩, mem_protectedWords, fun base a size h => mem_ringWords h, windowCovers_iff⟩
  case range =>
    refine exec_refused (c := .winEnable v) (code := .range) rfl hready ?_
    simp only [runCommand, cmdWinEnable, windowIndex_of_ge hv]
  case already => exact exec_accepted (c := .winEnable v) rfl hready ((cmdWinEnable_of_index hi s).trans (if_pos he))
  case conflict =>
    have hany : (protectedWords s.cfg).any (windowAt i s).covers = true := List.any_eq_true.mpr ⟨a, ha, hc⟩
    refine exec_refused (c := .winEnable v) (code := .conflict) rfl hready ((cmdWinEnable_of_index hi s).trans ?_)
    rw [if_neg (Bool.eq_false_iff.mp he), if_pos hany]
  case enabled =>
    have hany : ¬(protectedWords s.cfg).any (windowAt i s).covers = true := by
      rw [List.any_eq_true]
      rintro ⟨a, ha, hc⟩
      rw [hno a ha] at hc
      cases hc
    refine exec_accepted (c := .winEnable v) rfl hready ((cmdWinEnable_of_index hi s).trans ?_)
    rw [if_neg (Bool.eq_false_iff.mp he), if_neg hany]
    rfl

end Sys2Proof.Machine
end

section
/-! PROOFS. The setup commands on the watched words, the ring, the part state and the batches (chapters 5, 7, 8 and 10):
each check in its order, and what the accepted command does. -/

namespace Sys2Proof.Machine

/-! ### MARKS and RING -/

theorem cmdMarks_of_pass {s : State} (h : s.part = .pass) (c r k : WordAddr) :
    cmdMarks c r k s =
      if c = r ∨ c = k ∨ r = k then refuse .conflict s
      else if [c, r, k].any (inRing s.cfg.ringBase s.cfg.ringSize) then refuse .conflict s
      else if [c, r, k].any (windowCovers s.cfg) then refuse .conflict s
      else accept { s with cfg.marks := some { close := c, release := r, consumer := k } } :=
  if_neg (not_not_intro h)

theorem inRing_iff (base : WordAddr) (size : Nat) (a : WordAddr) :
    inRing base size a = true ↔ base.toNat ≤ a.toNat ∧ a.toNat < base.toNat + 4 * size := by
  simp only [inRing, Bool.and_eq_true, decide_eq_true_eq]

theorem any_three {α : Type} (p : α → Bool) (a b c : α) :
    [a, b, c].any p = true ↔ p a = true ∨ p b = true ∨ p c = true := by
  simp only [List.any_cons, List.any_nil, Bool.or_false, Bool.or_eq_true]

/-- Settles O34: the three checks come after the part state, and each refuses with its code. -/
theorem marksChecks : Obligations.MarksChecks := by
  intro c r k s hready ring clash
  have hring : [c, r, k].any (inRing s.cfg.ringBase s.cfg.ringSize) = true ↔ ring c ∨ ring r ∨ ring k := by
    simp only [any_three, inRing_iff, ring]
  have hcovered := any_three (windowCovers s.cfg) c r k
  refine ⟨fun hp => ?state, fun hp hc => ?conflict, fun hp hno => ?stored⟩
  case state => exact exec_refused (c := .marks c r k) (code := .state) rfl hready (if_pos hp)
  case conflict =>
    refine exec_refused (c := .marks c r k) (code := .conflict) rfl hready ((cmdMarks_of_pass hp c r k).trans ?_)
    by_cases hequal : c = r ∨ c = k ∨ r = k
    · rw [if_pos hequal]
    · rw [if_neg hequal]
      by_cases hin : ring c ∨ ring r ∨ ring k
      · rw [if_pos (hring.mpr hin)]
      · have hany : [c, r, k].any (windowCovers s.cfg) = true := by
          rw [hcovered]
          have hclash : (c = r ∨ c = k ∨ r = k) ∨ (ring c ∨ ring r ∨ ring k)
              ∨ windowCovers s.cfg c = true ∨ windowCovers s.cfg r = true ∨ windowCovers s.cfg k = true := by
            simpa only [clash, or_assoc] using hc
          exact (hclash.resolve_left hequal).resolve_left hin
        rw [if_neg (mt hring.mp hin), if_pos hany]
  case stored =>
    refine exec_accepted (c := .marks c r k) rfl hready ((cmdMarks_of_pass hp c r k).trans ?_)
    have hnone : ¬((c = r ∨ c = k ∨ r = k) ∨ (ring c ∨ ring r ∨ ring k)
        ∨ windowCovers s.cfg c = true ∨ windowCovers s.cfg r = true ∨ windowCovers s.cfg k = true) := by
      simpa only [clash, or_assoc] using hno
    obtain ⟨hequal, hin, hcover⟩ := (not_or.trans (and_congr_right fun _ => not_or)).mp hnone
    rw [if_neg hequal, if_neg (mt hring.mp hin), if_neg (mt hcovered.mp hcover)]

theorem cmdRing_of_idle {s : State} (hp : s.part = .pass) (hr : s.recs.records = []) (hw : s.recs.writer = .idle)
    (base : WordAddr) {z : Byte} {size : Nat} (hz : ringSizeOfCode z = some size) :
    cmdRing base z s =
      if !ringPlacementLegal base size then refuse .range s
      else if marksInRing s.cfg base size then refuse .conflict s
      else if (ringWords base size).any (windowCovers s.cfg) then refuse .conflict s
      else
        accept { s with cfg.ringBase := base, cfg.ringSize := size, recs.prod := 0, recs.cons := 0, recs.lost := 0 } := by
  have hbusy : ¬(s.recs.records ≠ [] ∨ writerWriting s = true) := by simp [hr, writerWriting, hw]
  rw [cmdRing, if_neg (not_not_intro hp), if_neg hbusy, hz]

theorem cmdRing_of_no_size {s : State} (hp : s.part = .pass) (hr : s.recs.records = []) (hw : s.recs.writer = .idle)
    (base : WordAddr) {z : Byte} (hz : ringSizeOfCode z = none) : cmdRing base z s = refuse .range s := by
  have hbusy : ¬(s.recs.records ≠ [] ∨ writerWriting s = true) := by simp [hr, writerWriting, hw]
  rw [cmdRing, if_neg (not_not_intro hp), if_neg hbusy, hz]

theorem ringSizeOfCode_none {z : Byte} (h : z.toNat = 1 ∨ 8 < z.toNat) : ringSizeOfCode z = none := by
  have h0 : z ≠ 0x00#8 := by rintro rfl; revert h; decide
  rw [ringSizeOfCode, if_neg h0, if_neg (by omega)]

theorem ringSizeOfCode_some {z : Byte} (h2 : 2 ≤ z.toNat) (h8 : z.toNat ≤ 8) : ringSizeOfCode z = some (2 ^ z.toNat) := by
  have h0 : z ≠ 0x00#8 := by rintro rfl; revert h2; decide
  rw [ringSizeOfCode, if_neg h0, if_pos ⟨h2, h8⟩]

theorem marksInRing_iff (c : Settings) (base : WordAddr) (size : Nat) :
    marksInRing c base size = true ↔ ∃ m, c.marks = some m ∧ ∃ a ∈ [m.close, m.release, m.consumer],
      base.toNat ≤ a.toNat ∧ a.toNat < base.toNat + 4 * size := by
  unfold marksInRing
  cases c.marks with
  | none => simp
  | some m => simp [inRing_iff]

/-- A ring of size 0 has no place and no word. -/
theorem ring_of_size_zero (c : Settings) (base : WordAddr) :
    ringPlacementLegal base 0 = true ∧ marksInRing c base 0 ≠ true ∧ ringWords base 0 = [] := by
  refine ⟨rfl, fun h => ?_, rfl⟩
  obtain ⟨m, -, a, -, hlow, hhigh⟩ := (marksInRing_iff c base 0).mp h
  omega

theorem ringPlacementLegal_iff {size : Nat} (h : size ≠ 0) (base : WordAddr) :
    ringPlacementLegal base size = true ↔ base.toNat % 4 = 0 ∧ base.toNat + 4 * size - 1 < 16777216 := by
  simp only [ringPlacementLegal, beq_eq_false_iff_ne.mpr h, Bool.false_or, Bool.and_eq_true, beq_iff_eq, decide_eq_true_eq]
  rfl

/-- Settles O35: the checks come in the order of the rule, the size code before the place. -/
theorem ringChecks : Obligations.RingChecks := by
  intro base z s hready
  have hrefused {code : ResultCode} (h : cmdRing base z s = refuse code s) :=
    exec_refused (i := .ring base z) (c := .ring base z) rfl hready h
  have haccepted {t : State} (h : cmdRing base z s = accept t) :=
    exec_accepted (i := .ring base z) (c := .ring base z) rfl hready h
  refine ⟨fun hp => ?state, fun hp hb => ?busy, fun hp hr hw => ⟨fun hz => ?code, fun hz => ?zero, fun h2 h8 => ?_⟩⟩
  case state => exact hrefused (if_pos hp)
  case busy =>
    have hbusy : s.recs.records ≠ [] ∨ writerWriting s = true := by simpa [writerWriting] using hb
    refine hrefused (code := .busy) ?_
    rw [cmdRing, if_neg (not_not_intro hp), if_pos hbusy]
  case code => exact hrefused (code := .range) (cmdRing_of_no_size hp hr hw base (ringSizeOfCode_none hz))
  case zero =>
    obtain rfl : z = 0x00#8 := BitVec.eq_of_toNat_eq hz
    obtain ⟨hlegal, hmarks, hwords⟩ := ring_of_size_zero s.cfg base
    refine haccepted ((cmdRing_of_idle hp hr hw base (size := 0) rfl).trans ?_)
    simp [hlegal, hmarks, hwords]
  have hsize : (2 : Nat) ^ z.toNat ≠ 0 := by positivity
  have hrun := cmdRing_of_idle hp hr hw base (ringSizeOfCode_some h2 h8)
  have hlegal := ringPlacementLegal_iff hsize base
  intro size legal clash
  have hclash : clash ↔ marksInRing s.cfg base size = true ∨ (ringWords base size).any (windowCovers s.cfg) = true := by
    rw [marksInRing_iff, List.any_eq_true]
  have hplaced (h : legal) : ¬(!ringPlacementLegal base size) = true := by
    rw [hlegal.mpr ⟨h.1, by have := h.2; omega⟩]
    decide
  refine ⟨fun hno => ?place, fun hl hc => ?conflict, fun hl hno => ?stored⟩
  case place =>
    have hbad : (!ringPlacementLegal base size) = true := by
      rw [Bool.not_eq_true', ← Bool.not_eq_true, hlegal]
      exact fun h => hno ⟨h.1, by have := h.2; omega⟩
    exact hrefused (code := .range) (hrun.trans (if_pos hbad))
  case conflict =>
    refine hrefused (code := .conflict) (hrun.trans ((if_neg (hplaced hl)).trans ?_))
    by_cases hmarks : marksInRing s.cfg base size = true
    · rw [if_pos hmarks]
    · rw [if_neg hmarks, if_pos ((hclash.mp hc).resolve_left hmarks)]
  case stored =>
    rw [hclash, not_or] at hno
    refine haccepted (hrun.trans ((if_neg (hplaced hl)).trans ?_))
    rw [if_neg hno.1, if_neg hno.2]

/-! ### ENGAGE -/

/-- Settles O36: the three checks have the one code, and the batch that opens is a fresh one. -/
theorem engageOpensSlotZero : Obligations.EngageOpensSlotZero := by
  intro s hready
  refine ⟨fun h => ?_, fun hp hr hm => ?_⟩
  · refine exec_refused (c := .engage) (code := .state) rfl hready ?_
    show cmdEngage s = _
    unfold cmdEngage
    by_cases hp : s.part ≠ .pass
    · rw [if_pos hp]
    · rw [if_neg hp]
      by_cases hr : s.cfg.ringSize = 0
      · rw [if_pos hr]
      · rw [if_neg hr, if_pos ((h.resolve_left hp).resolve_left hr)]
  · refine exec_accepted (c := .engage) rfl hready ?_
    show cmdEngage s = _
    rw [cmdEngage, if_neg (not_not_intro hp), if_neg hr, if_neg hm]
    rfl

/-! ### DISENGAGE -/

/-- The part after the batches of DISENGAGE have closed, before the write in progress is seen to (R82). -/
def disengagedState (i : SlotIx) (s : State) : State :=
  { s with part := .quiescing, batch.pendingClose := false, stall.forceCloseOwed := false,
           batch.slots := (s.batch.slots.set i (Slot.close .command s.sync.frameCounter (slotOf i s))).map Slot.letGo }

theorem cmdDisengage_eq {s : State} {i : SlotIx} (hp : s.part = .engaged) (hi : openSlot s = some i) :
    cmdDisengage s = accept (engineTest (disengageWrite (disengagedState i s))) := by
  have hopen : openSlot { s with part := .quiescing, batch.pendingClose := false } = some i := hi
  have hbatches : disengageBatches { s with part := .quiescing, batch.pendingClose := false }
      = releaseAll (closeSlot .command i { s with part := .quiescing, batch.pendingClose := false }) := by
    unfold disengageBatches
    rw [hopen]
  rw [cmdDisengage, if_neg (not_not_intro hp), hbatches]
  rfl

theorem disengageWrite_of_noWrite {s : State}
    (h : ∀ w, s.sys = .write w → w.phase = .waitPass ∨ w.phase = .writeRequested ∨ w.phase = .writeInFlight) :
    disengageWrite s = s := by
  unfold disengageWrite
  split
  · rename_i w hw
    rcases h w hw with hp | hp | hp <;> rw [hp]
  · rfl
  · rfl

theorem disengageWrite_of_write {s : State} {w : WriteJob} (h : s.sys = .write w) :
    (w.phase = .destRequested ∨ w.phase = .destInFlight → disengageWrite s = setWrite { w with leftEngaged := true } s)
      ∧ (w.phase = .waitSlot → disengageWrite s = stepMemory w (endStall s))
      ∧ (w.phase = .waitPlace → disengageWrite s = stallToPass (setWrite { w with phase := .waitPass } s))
      ∧ (w.phase = .waitCommitPlace →
          disengageWrite s = stallToPass (setWrite { w with phase := .waitPass, readData := none } s)) := by
  unfold disengageWrite
  rw [h]
  refine ⟨fun hp => ?_, fun hp => ?_, fun hp => ?_, fun hp => ?_⟩
  · rcases hp with hp | hp <;> simp only [hp]
  all_goals simp only [hp]

theorem stallToPass_eq (s : State) :
    (s.stall.expired = false → stallToPass s = { s with stall.cause := .pass, stall.forceCloseOwed := false })
      ∧ (s.stall.expired = true → stallToPass s =
          extendHorizonTo (youngestNonOpen s) { s with stall.cause := .pass, stall.forceCloseOwed := false }) := by
  unfold stallToPass
  refine ⟨fun h => ?_, fun h => ?_⟩
  · simp [h]
  · have hyoungest : youngestNonOpen { s with stall.cause := .pass, stall.forceCloseOwed := false } = youngestNonOpen s :=
      youngestNonOpen_congr rfl
    rw [if_pos h, hyoungest]

/-- Settles O37: the open batch closes and the HELD ones are released, and each phase of a write has its own course. -/
theorem disengageClosesAndKeepsStalls : Obligations.DisengageClosesAndKeepsStalls := by
  intro s hready
  refine ⟨fun hp => exec_refused (c := .disengage) (code := .state) rfl hready (if_pos hp), ?_⟩
  intro i hp hi closed released base leads
  have hbase : disengagedState i s = base := rfl
  have hleads {u : State} (h : disengageWrite (disengagedState i s) = u) : leads u := by
    refine exec_accepted (c := .disengage) rfl hready ((cmdDisengage_eq hp hi).trans ?_)
    rw [h]
  refine ⟨fun h => hleads (disengageWrite_of_noWrite h), fun w hw => ?_⟩
  obtain ⟨hdest, hslot, hplace, hcommit⟩ := disengageWrite_of_write (s := disengagedState i s) hw
  refine ⟨fun h => hleads (hdest h), fun h hl => hleads ?_, fun h => ?_⟩
  · rw [hslot h, stepMemory, if_neg hl]
    rfl
  · have hkept : disengageWrite (disengagedState i s)
        = stallToPass (setWrite (if w.phase = .waitPlace then { w with phase := .waitPass }
            else { w with phase := .waitPass, readData := none }) (disengagedState i s)) := by
      rcases h with h | h
      · rw [hplace h, if_pos h]
      · have hne : w.phase ≠ .waitPlace := by rw [h]; decide
        rw [hcommit h, if_neg hne]
    obtain ⟨hrunning, hexpired⟩ := stallToPass_eq (setWrite (if w.phase = .waitPlace then { w with phase := .waitPass }
      else { w with phase := .waitPass, readData := none }) (disengagedState i s))
    have hyoungest (m : WriteJob) : youngestNonOpen (setWrite m (disengagedState i s)) = youngestNonOpen base :=
      youngestNonOpen_congr rfl
    rw [hyoungest] at hexpired
    exact ⟨fun he => hleads (hkept.trans (hrunning he)), fun he => hleads (hkept.trans (hexpired he))⟩

/-! ### DISCARD -/

theorem slotHasEntries_iff (i : SlotIx) (s : State) : slotHasEntries i s = true ↔ ∃ e ∈ s.buf.entries, e.slot = i := by
  simp only [slotHasEntries, List.any_eq_true, beq_iff_eq]

theorem discardOpen_of_open {s : State} {i : SlotIx} (h : openSlot s = some i) :
    discardOpen s = if slotHasEntries i s then placeFreed (removeSlotEntries i s) else s := by
  simp only [discardOpen, h]

/-- Entries all of other slots are all kept. -/
theorem removeSlotEntries_of_none {s : State} {i : SlotIx} (h : ∀ e ∈ s.buf.entries, e.slot ≠ i) :
    removeSlotEntries i s = s := by
  have hall : s.buf.entries.filter (fun e => !(e.slot == i)) = s.buf.entries :=
    List.filter_eq_self.mpr fun e he => by simpa using h e he
  unfold removeSlotEntries
  rw [hall]

/-- Settles O38: the entries of the OPEN slot leave, and only then is a place free that was not. -/
theorem discardEmptiesOpenBatch : Obligations.DiscardEmptiesOpenBatch := by
  intro s hready
  refine ⟨fun hp => exec_refused (c := .discard) (code := .state) rfl hready (if_pos hp), fun i hp hi => ?_⟩
  have hrun : cmdDiscard s = accept (discardOpen s) := if_neg (not_not_intro hp)
  have hdone {t : State} (h : discardOpen s = t) : exec .discard s = .next (executed 0x00 [] t) :=
    exec_accepted (c := .discard) rfl hready (by rw [← h]; exact hrun)
  have hopen := discardOpen_of_open hi
  have hsome (h : ∃ e ∈ s.buf.entries, e.slot = i) : discardOpen s = placeFreed (removeSlotEntries i s) :=
    hopen.trans (if_pos ((slotHasEntries_iff i s).mpr h))
  have hnone (h : ∀ e ∈ s.buf.entries, e.slot ≠ i) : discardOpen s = s :=
    hopen.trans (if_neg fun hc => by obtain ⟨e, he, hs⟩ := (slotHasEntries_iff i s).mp hc; exact h e he hs)
  refine ⟨fun hwait => hdone ?_, fun h => hdone (hsome h), fun h => hdone (hnone h)⟩
  by_cases h : ∃ e ∈ s.buf.entries, e.slot = i
  · exact (hsome h).trans (placeFreed_of_waitsForNoPlace hwait)
  · have hothers : ∀ e ∈ s.buf.entries, e.slot ≠ i := fun e he hs => h ⟨e, he, hs⟩
    exact (hnone hothers).trans (removeSlotEntries_of_none hothers).symm

end Sys2Proof.Machine
end

section
/-! PROOFS. The force horizon and FLUSH (chapters 8 and 9): how far the horizon reaches, and what the closing, the opening and
the release of FLUSH make of the slots. -/

namespace Sys2Proof.Machine

/-! ### The force horizon -/

theorem extendHorizon_of_none {s : State} (q : Half) (h : s.drain.horizon = none) :
    extendHorizon q s = { s with drain.horizon := some q } := by
  have hout : inHorizon q s = false := by simp only [inHorizon, h]
  rw [extendHorizon, hout]
  rfl

theorem extendHorizon_of_some {s : State} {h : Half} (q : Half) (hh : s.drain.horizon = some h) :
    extendHorizon q s = { s with drain.horizon := if age q s < age h s then some q else some h } := by
  have hin : inHorizon q s = decide (age h s ≤ age q s) := by simp only [inHorizon, hh]
  rw [extendHorizon, hin]
  by_cases hage : age q s < age h s
  · rw [if_pos hage, if_neg (by simpa using hage)]
  · rw [if_neg hage, if_pos (by simpa using hage), ← hh]

/-- Only the horizon changes. -/
theorem extendHorizon_only (q : Half) (s : State) : ∃ h, extendHorizon q s = { s with drain.horizon := h } := by
  unfold extendHorizon
  split
  · exact ⟨s.drain.horizon, rfl⟩
  · exact ⟨some q, rfl⟩

theorem extendHorizonTo_only (o : Option SlotIx) (s : State) : ∃ h, extendHorizonTo o s = { s with drain.horizon := h } := by
  cases o with
  | none => exact ⟨s.drain.horizon, rfl⟩
  | some i => exact extendHorizon_only (slotOf i s).sequence s

/-- The horizon that results depends on the horizon before and the sequence counter alone. -/
theorem extendHorizon_horizon_congr {s t : State} (q : Half) (hh : t.drain.horizon = s.drain.horizon)
    (hc : t.batch.seqCounter = s.batch.seqCounter) :
    (extendHorizon q t).drain.horizon = (extendHorizon q s).drain.horizon := by
  cases h : s.drain.horizon with
  | none => rw [extendHorizon_of_none q h, extendHorizon_of_none q (hh.trans h)]
  | some k => rw [extendHorizon_of_some q h, extendHorizon_of_some q (hh.trans h), age, age, age, age, hc]

/-! ### Closing one batch and opening the next -/

theorem ne_of_open_free {s : State} {i j : SlotIx} (hi : openSlot s = some i) (hj : freeSlot s = some j) : i ≠ j := by
  rintro rfl
  have hopened := openSlot_some hi
  rw [freeSlot_some hj] at hopened
  cases hopened

theorem closeAndForce_of_free {s : State} {i j : SlotIx} (r : CloseReason) (hi : openSlot s = some i)
    (hj : freeSlot s = some j) :
    closeAndForce r s =
      { extendHorizon (slotOf i s).sequence (openBatch j (closeSlot r i s)) with stall.forceCloseOwed := false } := by
  unfold closeAndForce
  rw [hi, hj]

theorem slotOf_close_open {s : State} {i j : SlotIx} (r : CloseReason) (hi : openSlot s = some i)
    (hj : freeSlot s = some j) :
    slotOf i (openBatch j (closeSlot r i s)) = (slotOf i s).close r s.sync.frameCounter
      ∧ slotOf j (openBatch j (closeSlot r i s)) = freshSlot s.batch.seqCounter
      ∧ ∀ k, k ≠ i → k ≠ j → slotOf k (openBatch j (closeSlot r i s)) = slotOf k s := by
  refine ⟨?_, slotOf_openBatch_same j (closeSlot r i s), fun k hki hkj => ?_⟩
  · rw [slotOf_openBatch_ne _ (ne_of_open_free hi hj), closeSlot, slotOf_modSlot_same]
  · rw [slotOf_openBatch_ne _ hkj, closeSlot, slotOf_modSlot_ne _ _ hki]

/-! ### A release of every HELD batch -/

theorem letGo_not_held (b : Slot) : b.letGo.state ≠ .held := by
  unfold Slot.letGo
  split
  · exact SlotState.noConfusion
  · assumption

/-- The one slot that is OPEN is the OPEN slot. -/
theorem openSlot_of_alone {s : State} {j : SlotIx} (h : ∀ k, slotState k s = .opened ↔ k = j) : openSlot s = some j := by
  cases ho : openSlot s with
  | none => exact absurd ((h j).mpr rfl) (openSlot_none.mp ho j)
  | some k => rw [(h k).mp (openSlot_some ho)]

theorem openSlot_of_opened {s t : State} (h : ∀ k, slotState k t = .opened ↔ slotState k s = .opened) :
    openSlot t = openSlot s := by
  have hstates (k : SlotIx) : (slotState k t == SlotState.opened) = (slotState k s == SlotState.opened) := by
    rw [Bool.eq_iff_iff, beq_iff_eq, beq_iff_eq]
    exact h k
  simp only [openSlot, lowestSlot, hstates]

theorem letGo_sequence (b : Slot) : b.letGo.sequence = b.sequence := by
  unfold Slot.letGo
  split <;> rfl

theorem slotAge_releaseAll (i : SlotIx) (s : State) : slotAge i (releaseAll s) = slotAge i s := by
  rw [slotAge, slotOf_releaseAll, letGo_sequence]
  rfl

theorem nonOpenQueue_releaseAll (s : State) : nonOpenQueue (releaseAll s) = nonOpenQueue s := by
  have hstates {v : SlotState} (hv : v ≠ .closed) (hv' : v ≠ .held) (i : SlotIx) :
      (slotState i (releaseAll s) != v) = (slotState i s != v) := by
    have hiff := letGo_state (slotOf i s) hv hv'
    rw [Bool.eq_iff_iff, bne_iff_ne, bne_iff_ne, slotState, slotOf_releaseAll]
    exact not_congr hiff
  have hinsert : (fun i l => insertByAge i (releaseAll s) l) = fun i l => insertByAge i s l := by
    funext i l
    exact insertByAge_of_ages (slotAge_releaseAll · s) i l
  have hfree := hstates (v := .free) (by decide) (by decide)
  have hopened := hstates (v := .opened) (by decide) (by decide)
  simp only [nonOpenQueue, queueOrder, hfree, hopened, hinsert]

/-! ### FLUSH -/

/-- The state of FLUSH with a slot FREE, before the horizon is extended to the youngest batch. -/
def flushedState (s : State) : State := releaseAll (closeAndForce .command s)

theorem flushEngaged_of_free {s : State} {j : SlotIx} (hj : freeSlot s = some j) :
    flushEngaged s = extendHorizonTo (youngestNonOpen (flushedState s)) (flushedState s) := by
  rw [flushEngaged, hj]
  rfl

theorem flushEngaged_of_no_free {s : State} (h : freeSlot s = none) :
    flushEngaged s = extendHorizonTo (youngestNonOpen s) { releaseAll s with batch.pendingClose := true } := by
  rw [flushEngaged, h, ← show youngestNonOpen (releaseAll s) = youngestNonOpen s from
    congrArg List.getLast? (nonOpenQueue_releaseAll s)]
  rfl

section
variable {s : State} {i j : SlotIx} (hi : openSlot s = some i) (hj : freeSlot s = some j)
include hi hj

theorem slotOf_flushedState :
    slotOf i (flushedState s)
        = { slotOf i s with state := .closed, tag := 0, commandClosed := true, closeFrame := s.sync.frameCounter }
      ∧ slotOf j (flushedState s) = freshSlot s.batch.seqCounter
      ∧ ∀ k, k ≠ i → k ≠ j → slotOf k (flushedState s) = (slotOf k s).letGo := by
  obtain ⟨hclosed, hfresh, hrest⟩ := slotOf_close_open .command hi hj
  obtain ⟨h, hh⟩ := extendHorizon_only (slotOf i s).sequence (openBatch j (closeSlot .command i s))
  have hslot (k : SlotIx) : slotOf k (flushedState s) = (slotOf k (openBatch j (closeSlot .command i s))).letGo := by
    rw [flushedState, slotOf_releaseAll, closeAndForce_of_free .command hi hj, hh]
    rfl
  refine ⟨?_, ?_, fun k hki hkj => ?_⟩
  · rw [hslot, hclosed]
    rfl
  · rw [hslot, hfresh]
    rfl
  · rw [hslot, hrest k hki hkj]

/-- Outside the slots, FLUSH with a slot FREE counts the sequence up and lets an owed force-close lapse. -/
theorem flushEngaged_frame :
    flushEngaged s = { s with
      batch := { slots := (flushEngaged s).batch.slots, seqCounter := s.batch.seqCounter + 1,
                 pendingClose := s.batch.pendingClose }
      drain.horizon := (flushEngaged s).drain.horizon
      stall.forceCloseOwed := false } := by
  obtain ⟨h, hfirst⟩ := extendHorizon_only (slotOf i s).sequence (openBatch j (closeSlot .command i s))
  obtain ⟨h', hsecond⟩ := extendHorizonTo_only (youngestNonOpen (flushedState s)) (flushedState s)
  rw [flushEngaged_of_free hj, hsecond, flushedState, closeAndForce_of_free .command hi hj, hfirst]
  rfl

/-- The horizon reaches the batch that FLUSH closes, when it is younger than the horizon and every other batch in flight. -/
theorem flushEngaged_horizon
    (hbefore : ∀ h, s.drain.horizon = some h →
      (s.batch.seqCounter + 1 - (slotOf i s).sequence).toNat < (s.batch.seqCounter + 1 - h).toNat)
    (hyounger : ∀ k, k ≠ i → slotState k s ≠ .free →
      (s.batch.seqCounter + 1 - (slotOf i s).sequence).toNat < (s.batch.seqCounter + 1 - (slotOf k s).sequence).toNat) :
    (flushEngaged s).drain.horizon = some (slotOf i s).sequence := by
  obtain ⟨hclosed, hfresh, hrest⟩ := slotOf_flushedState hi hj
  have hreached : (flushedState s).drain.horizon = some (slotOf i s).sequence := by
    rw [flushedState, closeAndForce_of_free .command hi hj]
    show (extendHorizon _ _).drain.horizon = _
    cases hh : s.drain.horizon with
    | none => rw [extendHorizon_of_none (s := openBatch j (closeSlot .command i s)) _ hh]
    | some h =>
      rw [extendHorizon_of_some (s := openBatch j (closeSlot .command i s)) _ hh]
      exact if_pos (hbefore h hh)
  have hcounter : (flushedState s).batch.seqCounter = s.batch.seqCounter + 1 := by
    obtain ⟨h, hfirst⟩ := extendHorizon_only (slotOf i s).sequence (openBatch j (closeSlot .command i s))
    rw [flushedState, closeAndForce_of_free .command hi hj, hfirst]
    rfl
  rw [flushEngaged_of_free hj]
  cases hy : youngestNonOpen (flushedState s) with
  | none => exact hreached
  | some k =>
    obtain ⟨⟨hused, hnot⟩, -⟩ := youngestNonOpen_some hy
    show (extendHorizon (slotOf k (flushedState s)).sequence (flushedState s)).drain.horizon = _
    rw [extendHorizon_of_some _ hreached]
    refine if_neg (Nat.not_lt.mpr ?_)
    rw [age, age, hcounter]
    rcases eq_or_ne k i with rfl | hki
    · rw [hclosed]
    · have hkj : k ≠ j := by
        rintro rfl
        rw [slotState, hfresh] at hnot
        exact hnot rfl
      rw [slotState, hrest k hki hkj] at hused
      rw [hrest k hki hkj, letGo_sequence]
      exact (hyounger k hki fun hfree => hused ((letGo_state _ (by decide) (by decide)).mpr hfree)).le
end

/-- Settles O39: the horizon's rule, and FLUSH in the three part states. -/
theorem flushForces : Obligations.FlushForces := by
  refine ⟨fun q s => ?rule, fun s => ⟨rfl, fun i => rfl⟩, fun s hready => ?_⟩
  case rule =>
    cases h : s.drain.horizon with
    | none => exact extendHorizon_of_none q h
    | some k => exact extendHorizon_of_some q h
  intro released
  refine ⟨fun hp => ?pass, fun hp => ?engaged, fun hp => ⟨fun hy => ?_, fun k hy => ?_⟩, fun i j hone hi hj => ?_, fun hj => ?_⟩
  case pass => exact exec_refused (c := .flush) (code := .state) rfl hready (by show cmdFlush s = _; rw [cmdFlush, hp])
  case engaged => exact exec_accepted (c := .flush) rfl hready (by show cmdFlush s = _; rw [cmdFlush, hp])
  · exact exec_accepted (c := .flush) rfl hready (by show cmdFlush s = _; rw [cmdFlush, hp, hy]; rfl)
  · exact exec_accepted (c := .flush) rfl hready (by show cmdFlush s = _; rw [cmdFlush, hp, hy]; rfl)
  · intro t q older
    obtain ⟨h, hh⟩ := extendHorizonTo_only (youngestNonOpen (flushedState s)) (flushedState s)
    have hslot (k : SlotIx) : slotOf k t = slotOf k (flushedState s) := by
      show slotOf k (flushEngaged s) = _
      rw [flushEngaged_of_free hj, hh]
      rfl
    obtain ⟨hclosed, hfresh, hrest⟩ := slotOf_flushedState hi hj
    have halone := countSlots_eq_one.mp hone
    refine ⟨openSlot_of_alone fun k => ?_, oldestHeld_none.mpr fun k => ?_, (hslot j).trans hfresh, (hslot i).trans hclosed,
      fun k hki hkj => (hslot k).trans (hrest k hki hkj), flushEngaged_frame hi hj, flushEngaged_horizon hi hj⟩
    · rw [slotState, hslot]
      rcases eq_or_ne k j with rfl | hkj
      · rw [hfresh]
        exact iff_of_true rfl rfl
      · refine iff_of_false (fun hopened => ?_) hkj
        rcases eq_or_ne k i with rfl | hki
        · rw [hclosed] at hopened
          cases hopened
        · rw [hrest k hki hkj] at hopened
          obtain ⟨a, ha⟩ := halone
          have hk := (ha k).mp ((letGo_state _ (by decide) (by decide)).mp hopened)
          exact hki (Option.some.inj (hk.symm.trans ((ha i).mp (openSlot_some hi))))
    · rw [slotState, hslot, flushedState, slotOf_releaseAll]
      exact letGo_not_held _
  · intro t
    have ht : t = extendHorizonTo (youngestNonOpen s) { releaseAll s with batch.pendingClose := true } :=
      flushEngaged_of_no_free hj
    obtain ⟨h, hh⟩ := extendHorizonTo_only (youngestNonOpen s) { releaseAll s with batch.pendingClose := true }
    have hslot (k : SlotIx) : slotOf k t = (slotOf k s).letGo := by
      rw [ht, hh]
      exact slotOf_releaseAll k s
    refine ⟨openSlot_of_opened fun k => ?_, oldestHeld_none.mpr fun k => ?_, hslot, ?_, fun hy => ?_, fun k hy => ?_⟩
    · rw [slotState, hslot]
      exact letGo_state _ (by decide) (by decide)
    · rw [slotState, hslot]
      exact letGo_not_held _
    · rw [ht, hh]
      rfl
    · rw [ht, hy]
      rfl
    · have hsequence : (slotOf k { releaseAll s with batch.pendingClose := true }).sequence = (slotOf k s).sequence := by
        show (slotOf k (releaseAll s)).sequence = _
        rw [slotOf_releaseAll, letGo_sequence]
      rw [ht, hy]
      show (extendHorizon (slotOf k { releaseAll s with batch.pendingClose := true }).sequence _).drain.horizon = _
      rw [hsequence]
      exact extendHorizon_horizon_congr _ rfl rfl

end Sys2Proof.Machine
end

section
/-! PROOFS. Soft reset, pin reset, the rise of RESETn and the ticks of the time base (chapters 6, 10 and 12). -/

namespace Sys2Proof.Machine

/-! ### A write completed as plain (R72) -/

theorem get_plainClasses (lanes : LaneMask) (i : LaneIx) :
    (plainClasses lanes).get i = if hasLane lanes i then .plain else .idle :=
  Four.get_of _ i

theorem laneByte_plainTransform (lanes : LaneMask) (data : Word) (i : LaneIx) :
    laneByte (plainTransform lanes data).keep i = (if hasLane lanes i then 0x00 else 0xFF)
      ∧ laneByte (plainTransform lanes data).flip i = if hasLane lanes i then laneByte data i else 0x00 := by
  constructor
  · rw [plainTransform, laneByte_not, laneByte_laneBits]
    cases hasLane lanes i <;> rfl
  · rw [plainTransform, laneByte_and, laneByte_laneBits, and_fillByte]
    rfl

/-- Two masks that agree on every lane are equal. -/
theorem mask_eq_of_lanes {m l : LaneMask} (h : ∀ i, hasLane m i = hasLane l i) : m = l :=
  BitVec.eq_of_getLsbD_eq fun k hk => h ⟨k, hk⟩

/-- All enabled lanes of a plain write are written, and none is held. -/
theorem lanes_of_plainClasses {w : WriteJob} (h : w.classes = plainClasses w.lanes) :
    w.immediateLanes = w.lanes ∧ w.lanesToHold = 0#4 := by
  refine ⟨mask_eq_of_lanes fun i => ?_, mask_eq_of_lanes fun i => ?_⟩
  · rw [WriteJob.immediateLanes, hasLane_maskOfLanes, Four.get_map, h, get_plainClasses]
    cases hasLane w.lanes i <;> rfl
  · rw [WriteJob.lanesToHold, hasLane_and, WriteJob.heldClassLanes, hasLane_maskOfLanes, Four.get_map, h, get_plainClasses,
      hasLane_zero]
    have hnone : ((if hasLane w.lanes i = true then LaneClass.plain else .idle) == LaneClass.carried
        || (if hasLane w.lanes i = true then LaneClass.plain else .idle) == LaneClass.deferred) = false := by
      cases hasLane w.lanes i <;> rfl
    rw [hnone, Bool.false_and]

/-- A plain write's memory word is the written word on its enabled lanes. -/
theorem memoryData_of_plain {w : WriteJob} (hc : w.classes = plainClasses w.lanes)
    (hx : w.xf = plainTransform w.lanes w.data) : w.memoryData = w.data &&& laneBits w.lanes := by
  refine word_eq_of_lanes fun i => ?_
  rw [WriteJob.memoryData, (lanes_of_plainClasses hc).1, hx]
  obtain ⟨hkeep, hflip⟩ := laneByte_plainTransform w.lanes w.data i
  rw [laneByte_and, laneByte_and, laneByte_laneBits, and_fillByte, and_fillByte]
  cases hl : hasLane w.lanes i with
  | false => rfl
  | true =>
    rw [hl] at hkeep hflip
    rw [if_pos rfl, if_pos rfl, laneByte_apply_of_keep_zero hkeep, hflip, if_pos rfl]

theorem afterReset_of_granted {w : WriteJob} (h : w.phase = .writeInFlight) : w.afterReset = w := by
  rw [WriteJob.afterReset, h]

theorem afterReset_of_destination {w : WriteJob} (h : w.phase = .destRequested ∨ w.phase = .destInFlight) :
    w.afterReset = w.asPlain := by
  rcases h with h | h <;> rw [WriteJob.afterReset, h]

theorem afterReset_of_other {w : WriteJob} (h : w.phase ≠ .writeInFlight) (h1 : w.phase ≠ .destRequested)
    (h2 : w.phase ≠ .destInFlight) : w.afterReset = { w.asPlain with phase := .writeRequested } := by
  unfold WriteJob.afterReset
  split
  case h_1 hp => exact absurd hp h
  case h_2 hp => exact absurd hp h1
  case h_3 hp => exact absurd hp h2
  all_goals rfl

/-- At a reset a write not yet granted becomes the plain write of all its lanes, in one phase or another. -/
theorem afterReset_plain {w : WriteJob} (h : w.phase ≠ .writeInFlight) :
    w.afterReset = { w.asPlain with phase := w.afterReset.phase } := by
  by_cases hdest : w.phase = .destRequested ∨ w.phase = .destInFlight
  · rw [afterReset_of_destination hdest]
  · obtain ⟨h1, h2⟩ := not_or.mp hdest
    rw [afterReset_of_other h h1 h2]

/-! ### The snoop of a soft reset (R143) -/

theorem snoopConsumer_of_no_room {n : Half} {s : State} (h : roomLimit s < (s.recs.prod - n).toNat) :
    snoopConsumer n s = raise .ringErr s :=
  if_neg (Nat.not_le.mpr h)

theorem softReset_of_no_snoop {s : State} (h : snoopAfterReset s.sys = none) : softReset s = clearRuntime s.cfg s := by
  rw [softReset, h]

theorem softReset_of_snoop {s : State} {n : Half} (h : snoopAfterReset s.sys = some n) :
    ((0#16 - n).toNat ≤ s.cfg.ringSize → softReset s = { clearRuntime s.cfg s with recs.cons := n })
      ∧ (s.cfg.ringSize < (0#16 - n).toNat → softReset s = { clearRuntime s.cfg s with ev.flags := 0x40 }) := by
  have hsnoop : softReset s = snoopConsumer n (clearRuntime s.cfg s) := by rw [softReset, h]
  have hflag : (0x00#8 ||| Event.ringErr.bit) = 0x40#8 := by decide
  have hraised : raise .ringErr (clearRuntime s.cfg s) = { clearRuntime s.cfg s with ev.flags := 0x40 } :=
    congrArg (fun flags => { clearRuntime s.cfg s with ev.flags := flags }) hflag
  rw [hsnoop]
  exact ⟨fun hroom => if_pos hroom,
    fun hfull => (snoopConsumer_of_no_room (s := clearRuntime s.cfg s) hfull).trans hraised⟩

theorem snoopAfterReset_none {p : SysPort}
    (h : ∀ w, p = .write w → w.mark = some .consumer → w.phase = .writeInFlight) : snoopAfterReset p = none := by
  cases p with
  | write w => exact if_neg fun hw => hw.2 (h w rfl hw.1)
  | idle => rfl
  | read r => rfl

theorem exec_transactionEnd_pending {s : State} {out : List Byte} (hphase : s.setup.phase = .executed out true)
    (hpending : s.setup.softResetPending = true) :
    exec .transactionEnd s =
      .next (softReset { s with setup := { phase := .noTransaction, sdo := none, softResetPending := false } }) := by
  show execTransactionEnd s = _
  simp only [execTransactionEnd, hphase, hpending, Bool.and_self, if_true]

/-- Settles O26: the runtime is cleared, the write in progress is made plain, and a consumer store among them is snooped. -/
theorem softResetAndItsWrites : Obligations.SoftResetAndItsWrites := by
  refine ⟨fun out s hphase hpending => ?reset, fun w => ⟨afterReset_of_granted, fun h => ?job⟩, fun lanes data i => ?lanes,
    rfl, fun r => rfl, fun w => rfl⟩
  case reset =>
    intro cleared
    refine ⟨fun h => ?_, fun w hw hmark hphase' => ?_⟩
    · have hnone := softReset_of_no_snoop
        (s := { s with setup := { phase := .noTransaction, sdo := none, softResetPending := false } }) (snoopAfterReset_none h)
      exact (exec_transactionEnd_pending hphase hpending).trans (congrArg _ hnone)
    · have hsnoop : snoopAfterReset s.sys = some (consumerCount w.data) := by
        rw [hw]
        exact if_pos ⟨hmark, hphase'⟩
      obtain ⟨hroom, hfull⟩ := softReset_of_snoop
        (s := { s with setup := { phase := .noTransaction, sdo := none, softResetPending := false } }) hsnoop
      rw [exec_transactionEnd_pending hphase hpending]
      exact ⟨fun h => congrArg _ (hroom h), fun h => congrArg _ (hfull h)⟩
  case job =>
    have hplain := afterReset_plain h
    have hclasses : w.afterReset.classes = plainClasses w.afterReset.lanes := by rw [hplain]; rfl
    have hxf : w.afterReset.xf = plainTransform w.afterReset.lanes w.afterReset.data := by rw [hplain]; rfl
    have hlanes : w.afterReset.lanes = w.lanes := by rw [hplain]; rfl
    have hdata : w.afterReset.data = w.data := by rw [hplain]; rfl
    obtain ⟨himmediate, hhold⟩ := lanes_of_plainClasses hclasses
    have hmemory := memoryData_of_plain hclasses hxf
    rw [hlanes] at himmediate hmemory
    rw [hdata] at hmemory
    exact ⟨by rw [hplain]; rfl, himmediate, hhold, hmemory, by rw [hplain]; rfl,
      fun h1 h2 => by rw [afterReset_of_other h h1 h2], hplain, fun hd => by rw [afterReset_of_destination hd]; rfl⟩
  case lanes => exact ⟨get_plainClasses lanes i, laneByte_plainTransform lanes data i⟩

/-! ### RESETn -/

/-- Settles O40: the fall clears all but the two ports, the arbiter and memory, and the rise reads the pin. -/
theorem pinResetAndItsRise : Obligations.PinResetAndItsRise := by
  refine ⟨fun s hup => ?fall, fun s hlow => ?rise, fun high => ⟨rfl, rfl, rfl⟩⟩
  case fall =>
    have hrun : exec .pinReset s = .next { clearRuntime Settings.reset s with
        resetn := false
        setup := { phase := if s.setup.phase = .noTransaction then .noTransaction else .blocked, sdo := none,
                   softResetPending := false } } :=
      if_pos hup
    refine ⟨hrun, fun t ht => ?_, rfl, rfl, rfl, rfl, rfl, rfl, rfl, rfl, fun i => ?_⟩
    · rw [hrun] at ht
      obtain rfl := Host.Outcome.next.inj ht
      rfl
    · revert i
      decide
  case rise =>
    have hnot : ¬s.resetn = true := by rw [hlow]; decide
    exact if_neg hnot

/-! ### Ticks (R96, R104, R121) -/

theorem tick_stall (x : Stall) :
    x.tick = if x.active = true ∧ x.expired = false ∧ x.elapsed.toNat < x.limit.toNat
      then { x with elapsed := x.elapsed + 1 } else x := by
  have hcond : (x.active && !x.expired && decide (x.elapsed < x.limit)) = true
      ↔ x.active = true ∧ x.expired = false ∧ x.elapsed.toNat < x.limit.toNat := by
    simp only [Bool.and_eq_true, Bool.not_eq_true', decide_eq_true_eq, BitVec.lt_def, and_assoc]
  unfold Stall.tick
  exact if_congr hcond rfl rfl

theorem tick_drain (d : DrainEngine) :
    d.tick = if d.current ≠ none then { d with ticks := if d.ticks < 65535 then d.ticks + 1 else d.ticks } else d := by
  unfold DrainEngine.tick
  exact if_congr Option.isSome_iff_ne_none rfl rfl

/-- Settles O41: the cycle count restarts, and the stall timer and the drain ticks each count by their own rule. -/
theorem tickAdvances : Obligations.TickAdvances := by
  intro s
  refine ⟨fun hlow => ?_, fun hup => ?_⟩
  · have hnot : ¬s.resetn = true := by rw [hlow]; decide
    exact if_neg hnot
  · have hrun : exec .timeBaseTick s = .next { s with sync.clkCycles := 0, stall := s.stall.tick, drain := s.drain.tick } :=
      if_pos hup
    rw [hrun, tick_stall, tick_drain]

end Sys2Proof.Machine
end

section
/-! PROOFS. The expiry of a stall, the force-close and the blanking events (chapters 9 and 10). -/

namespace Sys2Proof.Machine

/-! ### Forces -/

theorem forceForPlace_of_entry {s : State} {i : SlotIx} (h : oldestNonOpenWithEntry s = some i) :
    forceForPlace s = extendHorizon (slotOf i s).sequence s := by
  unfold forceForPlace
  rw [h]

/-- With a non-OPEN batch in flight a force-close is owed, and is not yet due (R125). -/
theorem forceForPlace_of_empty {s : State} {k : SlotIx} (h : oldestNonOpenWithEntry s = none)
    (hk : youngestNonOpen s = some k) :
    forceForPlace s = extendHorizon (slotOf k s).sequence { s with stall.forceCloseOwed := true } := by
  obtain ⟨h', hh⟩ := extendHorizon_only (slotOf k s).sequence { s with stall.forceCloseOwed := true }
  have hqueue : nonOpenQueue s ≠ [] := fun hnil => by
    rw [youngestNonOpen, hnil] at hk
    cases hk
  have hnot : forceCloseDue { s with stall.forceCloseOwed := true, drain.horizon := h' } = false := by
    have hsame : nonOpenQueue { s with stall.forceCloseOwed := true, drain.horizon := h' } = nonOpenQueue s :=
      nonOpenQueue_congr rfl
    rw [forceCloseDue, hsame, List.isEmpty_eq_false_iff.mpr hqueue, Bool.and_false]
  have hextended : extendHorizonTo (youngestNonOpen s) { s with stall.forceCloseOwed := true }
      = { s with stall.forceCloseOwed := true, drain.horizon := h' } := by
    rw [hk]
    exact hh
  rw [hh]
  unfold forceForPlace
  rw [h]
  dsimp only
  rw [hextended, hnot]
  rfl

/-- The open batch closes, forced, and another opens; the one closed is within the horizon (R125). -/
def forceClosed (i j : SlotIx) (u : State) : State :=
  { u with
    batch.slots :=
      (u.batch.slots.set i
          { slotOf i u with state := .closed, tag := 0, forceClosed := true, closeFrame := u.sync.frameCounter }).set j
        (freshSlot u.batch.seqCounter)
    batch.seqCounter := u.batch.seqCounter + 1
    drain.horizon := some (slotOf i u).sequence
    stall.forceCloseOwed := false }

theorem closeAndForce_force {s : State} {i j : SlotIx} (hi : openSlot s = some i) (hj : freeSlot s = some j)
    (h : s.drain.horizon = none) : closeAndForce .force s = forceClosed i j s := by
  rw [closeAndForce_of_free .force hi hj, extendHorizon_of_none (s := openBatch j (closeSlot .force i s)) _ h]
  rfl

/-- With the open batch alone in flight the force-close is due at once. -/
theorem forceForPlace_of_open_alone {s : State} {i j : SlotIx} (hactive : s.stall.active = true)
    (hnone : oldestNonOpen s = none) (hi : openSlot s = some i) (hj : freeSlot s = some j)
    (hh : s.drain.horizon = none) : forceForPlace s = forceClosed i j s := by
  have hqueue : nonOpenQueue s = [] := List.head?_eq_none_iff.mp hnone
  have hentry : oldestNonOpenWithEntry s = none := by rw [oldestNonOpenWithEntry, hqueue]; rfl
  have hyoungest : youngestNonOpen s = none := by rw [youngestNonOpen, hqueue]; rfl
  have hi' : openSlot { s with stall.forceCloseOwed := true } = some i := (openSlot_congr rfl).trans hi
  have hj' : freeSlot { s with stall.forceCloseOwed := true } = some j := (freeSlot_congr rfl).trans hj
  have hdue : forceCloseDue { s with stall.forceCloseOwed := true } = true := by
    have hsame : nonOpenQueue { s with stall.forceCloseOwed := true } = nonOpenQueue s := nonOpenQueue_congr rfl
    rw [forceCloseDue, hsame, hqueue, hi', hactive]
    rfl
  unfold forceForPlace
  rw [hentry]
  dsimp only
  rw [hyoungest, extendHorizonTo, if_pos hdue, closeAndForce_force hi' hj' hh]
  rfl

theorem exec_stallExpiry_due {s : State} (hactive : s.stall.active = true) (hexpired : s.stall.expired = false)
    (hlimit : s.stall.limit.toNat ≤ s.stall.elapsed.toNat) : exec .stallExpiry s = .next (expireStall s) := by
  have hdue : expiryDue s = true := by
    rw [expiryDue, hactive, hexpired, decide_eq_true (BitVec.le_def.mpr hlimit)]
    rfl
  exact if_pos hdue

/-- Settles O42: what the expiry records, and the force each cause makes. -/
theorem stallExpiryAndForceClose : Obligations.StallExpiryAndForceClose := by
  refine ⟨fun s hactive hexpired hlimit => ?_, fun i j s hactive hnone hi hj hh => ?_⟩
  · intro t
    have hrun : exec .stallExpiry s = .next (engineTest (forceFor s.stall.cause t)) :=
      exec_stallExpiry_due hactive hexpired hlimit
    refine ⟨hrun, fun hc => by rw [hc]; rfl, fun hc => by rw [hc]; rfl, fun hc i hi => ?_, fun hc hno k hk => ?_,
      fun hc => by rw [hc]; rfl, fun hc hno hh i j hi hj => ?_⟩
    · rw [hc]
      exact forceForPlace_of_entry hi
    · rw [hc]
      exact forceForPlace_of_empty hno hk
    · rw [hrun, hc]
      have hforced : forceFor .place t = forceClosed i j t := forceForPlace_of_open_alone hactive hno hi hj hh
      rw [hforced]
      rfl
  · exact forceForPlace_of_open_alone hactive hnone hi hj hh

/-! ### Blanking -/

theorem driveBlank_starts {s : State} {high : Bool} (hup : s.resetn = true) (hactive : s.sync.blanking = some false)
    (hpin : blankingFromPin s.cfg.source high = some true) : driveBlank high s = raiseBlankStart { s with blank := high } := by
  simp only [driveBlank, hup, if_true, hactive, hpin]

theorem driveBlank_ends {s : State} {high : Bool} (hup : s.resetn = true) (hblank : s.sync.blanking = some true)
    (hpin : blankingFromPin s.cfg.source high = some false) :
    driveBlank high s = { s with blank := high, sync.blanking := some false } := by
  simp only [driveBlank, hup, if_true, hblank, hpin]
  rfl

/-- A level that leaves the blanking state as it is, or no blanking state at all, is no crossing. -/
theorem driveBlank_stays {s : State} {high : Bool}
    (h : s.resetn = false ∨ blankingFromPin s.cfg.source high = s.sync.blanking ∨ blankingFromPin s.cfg.source high = none) :
    driveBlank high s = { s with blank := high } := by
  unfold driveBlank
  split
  · rename_i hup
    split
    · rename_i hold hnew
      rcases h with h | h | h
      · rw [h] at hup
        cases hup
      · rw [hold, hnew] at h
        cases h
      · rw [hnew] at h
        cases h
    · rename_i hold hnew
      rcases h with h | h | h
      · rw [h] at hup
        cases hup
      · rw [hold, hnew] at h
        cases h
      · rw [hnew] at h
        cases h
    · rfl
  · rfl

/-- The drain set takes in the run of CLOSED batches behind those that are DRAINING or in it (R102). -/
theorem drainSetExtension_eq {s : State} {seen taken rest : List SlotIx} (hqueue : queueOrder s = seen ++ taken ++ rest)
    (hseen : ∀ k ∈ seen, slotState k s = .draining ∨ inDrainSet (slotOf k s).sequence s = true)
    (hfirst : ∀ k, (taken ++ rest).head? = some k →
      slotState k s ≠ .draining ∧ inDrainSet (slotOf k s).sequence s = false)
    (htaken : ∀ k ∈ taken, slotState k s = .closed) (hrest : ∀ k, rest.head? = some k → slotState k s ≠ .closed) :
    drainSetExtension s = taken := by
  have hskip : (fun i => slotState i s == .draining || inDrainSet (slotOf i s).sequence s)
      = fun i => decide (slotState i s = .draining ∨ inDrainSet (slotOf i s).sequence s = true) := by
    funext i
    rw [Bool.eq_iff_iff, Bool.or_eq_true, beq_iff_eq, decide_eq_true_eq]
  have hdropped : (queueOrder s).dropWhile
      (fun i => decide (slotState i s = .draining ∨ inDrainSet (slotOf i s).sequence s = true)) = taken ++ rest := by
    rw [hqueue, List.append_assoc, List.dropWhile_append_of_pos fun k hk => decide_eq_true (hseen k hk)]
    cases h : taken ++ rest with
    | nil => rfl
    | cons k l =>
      obtain ⟨hnot, hout⟩ := hfirst k (by rw [h]; rfl)
      refine List.dropWhile_cons_of_neg ?_
      rw [decide_eq_true_eq, hout]
      exact fun hc => hc.elim hnot Bool.noConfusion
  rw [drainSetExtension, hskip, hdropped, List.takeWhile_append_of_pos fun k hk => beq_iff_eq.mpr (htaken k hk)]
  cases h : rest with
  | nil => exact List.append_nil taken
  | cons k l =>
    have hnot := hrest k (by rw [h]; rfl)
    rw [List.takeWhile_cons_of_neg (by rwa [beq_iff_eq]), List.append_nil]

/-- Settles O43: the crossings of each source, the drain set's rule, and the levels that are no crossing. -/
theorem blankEvents : Obligations.BlankEvents := by
  refine ⟨fun s hup hactive => ?starts, fun s seen taken rest hqueue hseen hfirst htaken hrest => ?set,
    fun high s => ?others⟩
  case starts =>
    intro t
    have hdriven {high : Bool} (hpin : blankingFromPin s.cfg.source high = some true) :
        driveBlank high s = engineTest (extendDrainSet (t high)) :=
      driveBlank_starts hup hactive hpin
    refine ⟨fun hsource => ?_, fun hsource => ?_⟩
    · have hdrive := hdriven (high := true) (by rw [hsource]; rfl)
      exact ⟨by show execBlankStart s = _; rw [execBlankStart, hsource]; exact congrArg _ hdrive, congrArg _ hdrive⟩
    · have hdrive := hdriven (high := false) (by rw [hsource]; rfl)
      exact ⟨by show execBlankStart s = _; rw [execBlankStart, hsource]; exact congrArg _ hdrive, congrArg _ hdrive⟩
  case set =>
    have htaken := drainSetExtension_eq hqueue hseen hfirst htaken hrest
    cases hlast : taken.getLast? with
    | none => simp only [extendDrainSet, htaken, hlast]
    | some k => simp only [extendDrainSet, htaken, hlast]
  case others =>
    refine ⟨fun hup hblank hsource => ?_, fun hup hblank hsource => ?_, fun hsource hsame => ?_, fun hsource hsame => ?_,
      fun h => ?_⟩
    · have hdrive := driveBlank_ends (high := false) hup hblank (by rw [hsource]; rfl)
      exact ⟨by show execBlankEnd s = _; rw [execBlankEnd, hsource]; exact congrArg _ hdrive, congrArg _ hdrive⟩
    · have hdrive := driveBlank_ends (high := true) hup hblank (by rw [hsource]; rfl)
      exact ⟨by show execBlankEnd s = _; rw [execBlankEnd, hsource]; exact congrArg _ hdrive, congrArg _ hdrive⟩
    · exact congrArg _ (driveBlank_stays (.inr (.inl (by rw [hsource, hsame]; rfl))))
    · exact congrArg _ (driveBlank_stays (.inr (.inl (by rw [hsource, hsame]; rfl))))
    · refine congrArg _ (driveBlank_stays (h.imp_right fun hsource => .inr ?_))
      rw [hsource]
      rfl

end Sys2Proof.Machine
end

section
/-! PROOFS. The reads of the system master and of the refresh master, and the answers of memory to them (chapters 3 and 11). -/

namespace Sys2Proof.Machine

/-! ### A reported error and an answer do not meet -/

theorem answerSystem_errorReported (a : Answer) (f : InFlight) (s : State) :
    answerSystem a (errorReported f s) = errorReported f (answerSystem a s) := by
  unfold errorReported
  split <;> rfl

theorem answerRefresh_errorReported (a : Answer) (f : InFlight) (s : State) :
    answerRefresh a (errorReported f s) = errorReported f (answerRefresh a s) := by
  unfold errorReported
  split <;> rfl

/-! ### Reads -/

theorem wordHasEntry_iff (word : WordAddr) (s : State) : wordHasEntry word s = true ↔ ∃ e ∈ s.buf.entries, e.word = word := by
  simp only [wordHasEntry, List.any_eq_true, beq_iff_eq]

theorem exec_systemRead_of_idle {s : State} (h : s.sys = .idle) (word : WordAddr) (lanes : LaneMask) :
    exec (.systemRead word lanes) s =
      if wordHasEntry word s && (composed word s).keep == 0#32 then .next (answerSystem (.data (composed word s).flip) s)
      else .next { s with
        sysAnswer := none
        sys := .read { word := word, lanes := lanes, forwarded := wordHasEntry word s, granted := false,
                       snapshot := Transform.identity } } :=
  if_neg (not_not_intro h)

theorem exec_systemReadResponse {s : State} {f : InFlight} {r : ReadJob} (hf : s.inFlight = some f)
    (hk : f.req.kind = .systemRead) (hr : s.sys = .read r) (reply : ReadReply) :
    exec (.systemReadResponse reply) s = .next (answerSystem (r.answer reply) (takeResponse f (readFailed reply) s)) := by
  show execSystemReadResponse reply s = _
  rw [execSystemReadResponse, inFlightOf_some hf hk, hr]

theorem exec_refreshReadResponse {s : State} {f : InFlight} (hf : s.inFlight = some f) (hk : f.req.kind = .refreshRead)
    (reply : ReadReply) :
    exec (.refreshReadResponse reply) s
      = .next (answerRefresh (readAnswer reply) (takeResponse f (readFailed reply) s)) := by
  show execRefreshReadResponse reply s = _
  rw [execRefreshReadResponse, inFlightOf_some hf hk]

/-- Settles O44: a read is answered from the entries when they determine the word, and otherwise by memory. -/
theorem systemAndRefreshReads : Obligations.SystemAndRefreshReads := by
  refine ⟨fun word lanes s hidle => ?accepted, fun r f d s hf hk hr => ?answered,
    fun word lanes f d s => ⟨fun hidle => if_neg (not_not_intro hidle), fun hf hk => ?refresh⟩, wordHasEntry_iff⟩
  case accepted =>
    intro c job
    have hrun := exec_systemRead_of_idle hidle word lanes
    refine ⟨fun hno => ?_, fun hsome hkeep => ?_, fun hsome hkeep => ?_⟩
    · rw [hrun, hno]
      rfl
    · have hdetermined : (wordHasEntry word s && (composed word s).keep == 0#32) = true := by
        rw [hsome, Bool.true_and]
        exact beq_iff_eq.mpr hkeep
      rw [hrun, if_pos hdetermined]
      rfl
    · have hdepends : ¬(wordHasEntry word s && (composed word s).keep == 0#32) = true := by
        rw [hsome, Bool.true_and]
        exact fun h => hkeep (beq_iff_eq.mp h)
      rw [hrun, if_neg hdepends, hsome]
  case answered =>
    refine ⟨exec_systemReadResponse hf hk hr (.ok d), (exec_systemReadResponse hf hk hr .error).trans ?_⟩
    exact congrArg _ ((congrArg (answerSystem .error) (takeResponse_error f s)).trans (answerSystem_errorReported .error f _))
  case refresh =>
    refine ⟨exec_refreshReadResponse hf hk (.ok d), (exec_refreshReadResponse hf hk .error).trans ?_⟩
    exact congrArg _ ((congrArg (answerRefresh .error) (takeResponse_error f s)).trans (answerRefresh_errorReported .error f _))

end Sys2Proof.Machine
end

section
/-! PROOFS. The write in progress (chapters 4 and 5): its lanes one by one, the plain store of a watched word, and what each
step of its course does. -/

namespace Sys2Proof.Machine

/-! ### The lanes of a job (R57, R62, R65) -/

theorem classifiedJob_lane (s : State) (word : WordAddr) (lanes : LaneMask) (data : Word) (i : LaneIx) :
    (classifiedJob s word lanes data).classes.get i = (laneWork s word lanes data (heldLanes word s) i).cls
      ∧ laneByte (classifiedJob s word lanes data).xf.keep i = (laneWork s word lanes data (heldLanes word s) i).keep
      ∧ laneByte (classifiedJob s word lanes data).xf.flip i = (laneWork s word lanes data (heldLanes word s) i).flip := by
  simp only [classifiedJob, classesOf, transformOf, lanesWork, laneByte_wordOfLanes, Four.get_map, Four.get_of, and_self]

theorem laneByte_restrict (t : Transform) (m : LaneMask) (i : LaneIx) :
    laneByte (t.restrict m).keep i = (if hasLane m i then laneByte t.keep i else 0xFF)
      ∧ laneByte (t.restrict m).flip i = if hasLane m i then laneByte t.flip i else 0x00 := by
  rw [Transform.restrict, laneByte_or, laneByte_not, laneByte_laneBits, or_not_fillByte, laneByte_and, laneByte_laneBits,
    and_fillByte]
  exact ⟨rfl, rfl⟩

theorem hasLane_immediateLanes (w : WriteJob) (i : LaneIx) :
    hasLane w.immediateLanes i = true ↔ w.classes.get i = .direct ∨ w.classes.get i = .plain := by
  simp only [WriteJob.immediateLanes, hasLane_maskOfLanes, Four.get_map, Bool.or_eq_true, beq_iff_eq]

theorem word_ne_zero_iff (v : Word) : v ≠ 0#32 ↔ ∃ i, laneByte v i ≠ 0#8 := by
  constructor
  · intro h
    by_contra hall
    exact h (word_eq_of_lanes fun i => (not_not.mp (not_exists.mp hall i)).trans (laneByte_zero i).symm)
  · rintro ⟨i, hi⟩ rfl
    exact hi (laneByte_zero i)

/-- A destination read is needed where some keep bit of an immediate lane is 1 (R27). -/
theorem needsDestination_iff (w : WriteJob) :
    w.needsDestination = true ↔
      ∃ (i : LaneIx) (k : Fin 8), hasLane w.immediateLanes i = true ∧ (laneByte w.xf.keep i).getLsbD k = true := by
  rw [WriteJob.needsDestination, Transform.needsRead, bne_iff_ne, word_ne_zero_iff]
  refine exists_congr fun i => ?_
  rw [laneByte_and, laneByte_laneBits, and_fillByte]
  cases hasLane w.immediateLanes i with
  | false => simp
  | true =>
    simp only [if_true, byte_ne_zero_iff, true_and]
    exact ⟨fun ⟨k, hk, hbit⟩ => ⟨⟨k, hk⟩, hbit⟩, fun ⟨k, hbit⟩ => ⟨k, k.isLt, hbit⟩⟩

theorem needsDestination_of_no_immediate {w : WriteJob} (h : w.immediateLanes = 0#4) : w.needsDestination = false := by
  rw [← Bool.not_eq_true, needsDestination_iff]
  rintro ⟨i, k, hi, -⟩
  rw [h, hasLane_zero] at hi
  cases hi

theorem laneByte_memoryData (w : WriteJob) (i : LaneIx) :
    laneByte w.memoryData i =
      if hasLane w.immediateLanes i then (laneByte (w.readData.getD 0) i &&& laneByte w.xf.keep i) ^^^ laneByte w.xf.flip i
      else 0x00 := by
  rw [WriteJob.memoryData, laneByte_and, laneByte_laneBits, and_fillByte, laneByte_apply]
  rfl

/-! ### Deferrable writes and marks (R70, R74) -/

theorem anyDeferrable_iff (f : Four LaneWork) : anyDeferrable f = true ↔ ∃ i, (f.get i).deferrable = true := by
  simp only [anyDeferrable, Bool.or_eq_true]
  constructor
  · rintro (((h | h) | h) | h)
    exacts [⟨0, h⟩, ⟨1, h⟩, ⟨2, h⟩, ⟨3, h⟩]
  · rintro ⟨i, hi⟩
    match i with
    | 0 => exact .inl (.inl (.inl hi))
    | 1 => exact .inl (.inl (.inr hi))
    | 2 => exact .inl (.inr hi)
    | 3 => exact .inr hi

theorem anyDeferrable_lanesWork (s : State) (word : WordAddr) (lanes : LaneMask) (data : Word) :
    anyDeferrable (lanesWork s word lanes data) = true ↔ someDeferrable s word lanes := by
  rw [anyDeferrable_iff, someDeferrable]
  refine exists_congr fun i => ?_
  rw [lanesWork, Four.get_of, deferrable_iff, Option.any_eq_true]
  simp only [beq_iff_eq]

theorem markOf_of_part_word {c : Settings} {word : WordAddr} {lanes : LaneMask} (h : lanes ≠ 0xF#4) :
    markOf c word lanes = none := by
  unfold markOf
  cases c.marks with
  | none => rfl
  | some m => exact if_neg h

theorem markOf_full {c : Settings} {m : Marks} (h : c.marks = some m) (word : WordAddr) :
    markOf c word 0xF =
      if word = m.close then some .close else if word = m.release then some .release
      else if word = m.consumer then some .consumer else none := by
  rw [markOf, h]
  rfl

theorem ite_some_eq_none {α : Type} (p : Prop) [Decidable p] (x : α) (r : Option α) :
    (if p then some x else r) = none ↔ ¬p ∧ r = none := by
  by_cases h : p
  · simp [h]
  · simp [h]

theorem markOf_none_iff (c : Settings) (word : WordAddr) (lanes : LaneMask) :
    markOf c word lanes = none ↔
      lanes ≠ 0xF#4 ∨ ∀ m, c.marks = some m → word ≠ m.close ∧ word ≠ m.release ∧ word ≠ m.consumer := by
  by_cases hl : lanes = 0xF#4
  · subst hl
    cases hm : c.marks with
    | none => simp [markOf, hm]
    | some m =>
      have hmark : markOf c word 0xF#4 = _ := markOf_full hm word
      rw [hmark]
      simp only [ite_some_eq_none, and_true, ne_eq, not_true_eq_false, false_or, Option.some.injEq, forall_eq']
  · exact iff_of_true (markOf_of_part_word hl) (.inl hl)

/-! ### The plain store of a watched word (R73) -/

/-- No lane of an ordinary word is resolved to a window (R9). -/
theorem resolve_of_ordinaryWord {word : WordAddr} {s : State} (h : ordinaryWord word s) (i : LaneIx) :
    resolve s (bytePosition word i) = none := by
  refine (resolve_eq_none_iff s _).mpr fun j ⟨henabled, hcontains⟩ => ?_
  have hcovers : windowCovers s.cfg word = true :=
    (windowCovers_iff word s).mpr ⟨j, henabled, covers_of_contains hcontains⟩
  rw [h.1] at hcovers
  cases hcovers

theorem hasLane_full (i : LaneIx) : hasLane (0xF : LaneMask) i = true := by
  revert i
  decide

theorem not_someDeferrable_of_ordinaryWord {word : WordAddr} {s : State} (h : ordinaryWord word s) (lanes : LaneMask) :
    ¬someDeferrable s word lanes := by
  rintro ⟨i, -, hheld | hwindow⟩
  · rw [h.2, hasLane_zero] at hheld
    cases hheld
  · rw [resolve_of_ordinaryWord h i] at hwindow
    cases hwindow

theorem transform_eq {t : Transform} {keep flip : Word} (hk : t.keep = keep) (hf : t.flip = flip) :
    t = { keep := keep, flip := flip } := by
  subst hk hf
  rfl

theorem four_eq_of_get {α : Type} {f g : Four α} (h : ∀ i, f.get i = g.get i) : f = g := by
  obtain ⟨a, b, c, d⟩ := f
  obtain ⟨a', b', c', d'⟩ := g
  obtain rfl : a = a' := h 0
  obtain rfl : b = b' := h 1
  obtain rfl : c = c' := h 2
  obtain rfl : d = d' := h 3
  rfl

theorem classifiedJob_of_ordinaryWord {word : WordAddr} {s : State} (h : ordinaryWord word s) (data : Word) :
    classifiedJob s word 0xF data = plainStore word data (markOf s.cfg word 0xF) false := by
  have hlane (i : LaneIx) : laneWork s word 0xF data (heldLanes word s) i =
      { cls := if hasLane (heldLanes word s) i then .carried else .plain, keep := 0x00, flip := laneByte data i,
        deferrable := hasLane (heldLanes word s) i } :=
    laneWork_of_no_window (hasLane_full i) (resolve_of_ordinaryWord h i) data (heldLanes word s)
  have hclass (i : LaneIx) : (classifiedJob s word 0xF data).classes.get i = .plain := by
    rw [(classifiedJob_lane s word 0xF data i).1, hlane, h.2, hasLane_zero]
    rfl
  have hclasses : (classifiedJob s word 0xF data).classes = ⟨.plain, .plain, .plain, .plain⟩ :=
    four_eq_of_get fun i => (hclass i).trans (by match i with | 0 | 1 | 2 | 3 => rfl)
  have hkeep : (classifiedJob s word 0xF data).xf.keep = 0 := word_eq_of_lanes fun i => by
    rw [(classifiedJob_lane s word 0xF data i).2.1, hlane]
    exact (laneByte_zero i).symm
  have hflip : (classifiedJob s word 0xF data).xf.flip = data := word_eq_of_lanes fun i => by
    rw [(classifiedJob_lane s word 0xF data i).2.2, hlane]
  have hxf : (classifiedJob s word 0xF data).xf = { keep := 0, flip := data } :=
    transform_eq hkeep hflip
  rw [plainStore, ← hclasses, ← hxf]
  rfl

theorem plainJob_full (s : State) (word : WordAddr) (data : Word) :
    plainJob s word 0xF data = plainStore word data (markOf s.cfg word 0xF) true := by
  have hkeep : (plainTransform 0xF data).keep = 0 := word_eq_of_lanes fun i => by
    rw [(laneByte_plainTransform 0xF data i).1, hasLane_full]
    exact (laneByte_zero i).symm
  have hflip : (plainTransform 0xF data).flip = data := word_eq_of_lanes fun i => by
    rw [(laneByte_plainTransform 0xF data i).2, hasLane_full]
    rfl
  have hxf : plainTransform 0xF data = { keep := 0, flip := data } := transform_eq hkeep hflip
  rw [plainJob, hxf]
  rfl

theorem plainStore_lanes (word : WordAddr) (data : Word) (mark : Option MarkKind) (inPass : Bool) :
    (plainStore word data mark inPass).lanesToHold = 0#4 ∧ (plainStore word data mark inPass).immediateLanes ≠ 0#4
      ∧ (plainStore word data mark inPass).needsDestination = false := by
  refine ⟨mask_eq_of_lanes fun i => ?_, fun h => ?_, ?_⟩
  · rw [hasLane_zero, ← Bool.not_eq_true, hasLane_lanesToHold]
    match i with | 0 | 1 | 2 | 3 => simp [plainStore, Four.get]
  · have hlane := (hasLane_immediateLanes (plainStore word data mark inPass) 0).mpr (.inr rfl)
    rw [h, hasLane_zero] at hlane
    cases hlane
  · have hkeep : (0#32 &&& laneBits (plainStore word data mark inPass).immediateLanes) = 0#32 := BitVec.zero_and
    exact bne_eq_false_iff_eq.mpr hkeep

/-! ### The course of a write (R43, R44, R62, R64, R68) -/

theorem stepDestination_of_needed {w : WriteJob} (h : w.needsDestination = true) (s : State) :
    stepDestination w s = setWrite { w with phase := .destRequested } s :=
  if_pos h

theorem stepDestination_of_not_needed {w : WriteJob} (h : w.needsDestination = false) (s : State) :
    stepDestination w s = stepCommit w s := by
  rw [stepDestination, h]
  rfl

theorem stepCommit_of_hold {w : WriteJob} (h : w.lanesToHold ≠ 0#4) (s : State) : stepCommit w s = commit w s := if_neg h

theorem stepCommit_of_no_hold {w : WriteJob} (h : w.lanesToHold = 0#4) (s : State) : stepCommit w s = stepMemory w s :=
  if_pos h

theorem stepMemory_of_immediate {w : WriteJob} (h : w.immediateLanes ≠ 0#4) (s : State) :
    stepMemory w s = setWrite { w with phase := .writeRequested } s :=
  if_neg h

theorem stepMemory_of_no_immediate {w : WriteJob} (h : w.immediateLanes = 0#4) (s : State) :
    stepMemory w s = answerSystem .ok s :=
  if_pos h

theorem stepDestination_plainStore (word : WordAddr) (data : Word) (mark : Option MarkKind) (inPass : Bool) (s : State) :
    stepDestination (plainStore word data mark inPass) s = setWrite (plainStore word data mark inPass) s := by
  obtain ⟨hhold, himmediate, hneed⟩ := plainStore_lanes word data mark inPass
  rw [stepDestination_of_not_needed hneed, stepCommit_of_no_hold hhold, stepMemory_of_immediate himmediate]
  rfl

theorem commit_composes {w : WriteJob} {s : State} {i : SlotIx} {e : Entry} (hi : commitSlot w s = some i)
    (he : findEntry w.word i s = some e) :
    commit w s = stepMemory { w with reserved := false } (composeEntry w.word i w.lanesToHold w.holdTransform s) := by
  simp only [commit, hi, he, Option.isSome_some, if_true]

theorem commit_adds {w : WriteJob} {s : State} {i : SlotIx} (hi : commitSlot w s = some i)
    (he : findEntry w.word i s = none) (hplace : w.reserved = true ∨ placeFree s = true) :
    commit w s = stepMemory { w with reserved := false } (addEntry (w.newEntry i) s) := by
  have hroom : (w.reserved || placeFree s) = true := by rwa [Bool.or_eq_true]
  simp only [commit, hi, he, Option.isSome_none, Bool.false_eq_true, if_false, hroom, if_true]

theorem commit_waits {w : WriteJob} {s : State} {i : SlotIx} (hi : commitSlot w s = some i)
    (he : findEntry w.word i s = none) (hreserved : w.reserved = false) (hplace : placeFree s = false) :
    commit w s = commitWithoutPlace w s := by
  simp only [commit, hi, he, Option.isSome_none, Bool.false_eq_true, if_false, hreserved, hplace, Bool.or_self]

theorem commit_refused {w : WriteJob} {s : State} (h : commitSlot w s = none) : commit w s = commitWithoutSlot w s := by
  simp only [commit, h]

/-! ### Places (R39, R61) -/

/-- With no reservation a place is free while the buffer holds fewer entries than it has places (R33). -/
theorem placeFree_iff {s : State} (h : reservationHeld s = false) : placeFree s = true ↔ s.buf.entries.length < 1024 := by
  have hused : placesUsed s = s.buf.entries.length := by
    rw [placesUsed, h]
    rfl
  rw [placeFree, hused, decide_eq_true_eq]
  rfl

theorem needsPlace_of_no_hold {w : WriteJob} (h : w.lanesToHold = 0#4) (s : State) : needsPlace w s = false := by
  rw [needsPlace, h]
  rfl

theorem needsPlace_of_open {w : WriteJob} {s : State} {i : SlotIx} (h : w.lanesToHold ≠ 0#4) (hi : openSlot s = some i) :
    needsPlace w s = (findEntry w.word i s).isNone := by
  rw [needsPlace, hi, bne_iff_ne.mpr h, Bool.true_and]

end Sys2Proof.Machine
end

section
/-! PROOFS. The acceptance of a system write (chapters 4, 5 and 8): in PASS, in ENGAGED and in QUIESCING, of ordinary words
and of the three watched words. -/

namespace Sys2Proof.Machine

theorem exec_systemWrite_of_idle {s : State} (h : s.sys = .idle) (word : WordAddr) {lanes : LaneMask} (hl : lanes ≠ 0#4)
    (data : Word) : exec (.systemWrite word lanes data) s = .next (acceptWrite word lanes data { s with sysAnswer := none }) := by
  show execSystemWrite word lanes data s = _
  rw [execSystemWrite, if_neg (not_not_intro h), if_neg hl]

/-! ### PASS and QUIESCING (R69, R70) -/

theorem acceptWrite_of_pass {s : State} (hp : s.part = .pass) (word : WordAddr) (lanes : LaneMask) (data : Word) :
    acceptWrite word lanes data s = stepMemory (plainJob s word lanes data) (otherMarkEffect (plainJob s word lanes data) s) := by
  rw [acceptWrite, hp]

theorem acceptWrite_of_engaged {s : State} (hp : s.part = .engaged) (word : WordAddr) (lanes : LaneMask) (data : Word) :
    acceptWrite word lanes data s = acceptEngaged (classifiedJob s word lanes data) s := by
  rw [acceptWrite, hp]

theorem acceptWrite_of_deferrable {s : State} (hp : s.part = .quiescing) {word : WordAddr} {lanes : LaneMask}
    (hd : someDeferrable s word lanes) (data : Word) :
    acceptWrite word lanes data s
      = beginStall .pass (setWrite { classifiedJob s word lanes data with phase := .waitPass } s) := by
  rw [acceptWrite, hp]
  exact if_pos ((anyDeferrable_lanesWork s word lanes data).mpr hd)

theorem acceptWrite_of_not_deferrable {s : State} (hp : s.part = .quiescing) {word : WordAddr} {lanes : LaneMask}
    (hd : ¬someDeferrable s word lanes) (data : Word) :
    acceptWrite word lanes data s
      = stepDestination (classifiedJob s word lanes data) (otherMarkEffect (classifiedJob s word lanes data) s) := by
  rw [acceptWrite, hp]
  exact if_neg (mt (anyDeferrable_lanesWork s word lanes data).mp hd)

theorem otherMarkEffect_of_no_mark {w : WriteJob} (h : w.mark = none) (s : State) : otherMarkEffect w s = s := by
  rw [otherMarkEffect, h]

/-- Outside ENGAGED a mark other than the consumer's changes nothing (R73). -/
theorem otherMarkEffect_of_not_engaged {w : WriteJob} {s : State} (hp : s.part ≠ .engaged) (h : w.mark ≠ some .consumer) :
    otherMarkEffect w s = s := by
  unfold otherMarkEffect
  split
  · exact if_neg hp
  · rename_i hm
    exact absurd hm h
  · rfl
  · rfl

/-- Settles O45: no lanes, all lanes plain in PASS, and the stall of a deferrable write in QUIESCING. -/
theorem writesInPassAndQuiescing : Obligations.WritesInPassAndQuiescing := by
  refine ⟨fun word lanes data s hidle => ⟨?none, fun hp hl hmark => ?pass⟩, fun word lanes data s hidle hp hl hd => ?quiescing⟩
  case none =>
    show execSystemWrite word 0#4 data s = _
    rw [execSystemWrite, if_neg (not_not_intro hidle), if_pos rfl]
    rfl
  case pass =>
    have hother : otherMarkEffect (plainJob s word lanes data) { s with sysAnswer := none } = { s with sysAnswer := none } :=
      otherMarkEffect_of_not_engaged (s := { s with sysAnswer := none }) (by rw [hp]; decide) hmark
    obtain ⟨himmediate, -⟩ := lanes_of_plainClasses (w := plainJob s word lanes data) rfl
    have hmemory := memoryData_of_plain (w := plainJob s word lanes data) rfl rfl
    have haccepted : acceptWrite word lanes data { s with sysAnswer := none }
        = setWrite (plainJob s word lanes data) { s with sysAnswer := none } := by
      refine (acceptWrite_of_pass (s := { s with sysAnswer := none }) hp word lanes data).trans ?_
      show stepMemory (plainJob s word lanes data) (otherMarkEffect (plainJob s word lanes data) _) = _
      rw [hother, stepMemory_of_immediate (by rw [himmediate]; exact hl)]
      rfl
    refine ⟨plainJob s word lanes data, ?_, ?_⟩
    · rw [exec_systemWrite_of_idle hidle word hl, haccepted]
      rfl
    · show some _ = some _
      rw [himmediate, hmemory]
      rfl
  case quiescing =>
    rw [exec_systemWrite_of_idle hidle word hl]
    exact congrArg _ (acceptWrite_of_deferrable (s := { s with sysAnswer := none }) hp hd data)

/-! ### ENGAGED -/

theorem acceptEngaged_of_no_place {w : WriteJob} {s : State} (h : needsPlace w s = false) (hm : w.mark ≠ some .close) :
    acceptEngaged w s = stepDestination w (otherMarkEffect w s) := by
  rw [acceptEngaged, h, if_neg Bool.false_ne_true, if_neg hm]

theorem acceptEngaged_of_close {w : WriteJob} {s : State} (h : needsPlace w s = false) (hm : w.mark = some .close) :
    acceptEngaged w s = acceptClose w s := by
  rw [acceptEngaged, h, if_neg Bool.false_ne_true, if_pos hm]

theorem acceptEngaged_of_place {w : WriteJob} {s : State} (h : needsPlace w s = true) :
    (placeFree s = true →
        acceptEngaged w s = stepDestination { w with reserved := true } (setWrite { w with reserved := true } s))
      ∧ (placeFree s = false → acceptEngaged w s = beginStall .place (setWrite { w with phase := .waitPlace } s)) := by
  rw [acceptEngaged, if_pos h]
  exact ⟨fun hp => if_pos hp, fun hp => if_neg (by rw [hp]; decide)⟩

/-- The course of a write with lanes to hold and its place assured: its read first, or its commit and then memory or the
answer. -/
theorem stepDestination_of_hold {w : WriteJob} {s t : State} (hhold : w.lanesToHold ≠ 0#4)
    (hcommit : commit w s = stepMemory { w with reserved := false } t) :
    (w.immediateLanes = 0#4 → stepDestination w s = answerSystem .ok t)
      ∧ (w.immediateLanes ≠ 0#4 → w.needsDestination = true →
          stepDestination w s = setWrite { w with phase := .destRequested } s)
      ∧ (w.immediateLanes ≠ 0#4 → w.needsDestination = false →
          stepDestination w s = setWrite { w with reserved := false, phase := .writeRequested } t) := by
  refine ⟨fun him => ?_, fun _ hneed => stepDestination_of_needed hneed s, fun him hneed => ?_⟩
  · rw [stepDestination_of_not_needed (needsDestination_of_no_immediate him), stepCommit_of_hold hhold, hcommit]
    exact stepMemory_of_no_immediate (w := { w with reserved := false }) him t
  · rw [stepDestination_of_not_needed hneed, stepCommit_of_hold hhold, hcommit]
    exact stepMemory_of_immediate (w := { w with reserved := false }) him t

theorem addEntry_eq (e : Entry) (s : State) :
    addEntry e s =
      { s with buf := { entries := s.buf.entries ++ [e], highWater := max s.buf.highWater (s.buf.entries.length + 1) } } := by
  simp only [addEntry, HoldBuffer.liftMark, List.length_append, List.length_singleton]

theorem reservationHeld_of_idle {s : State} (h : s.sys = .idle) : reservationHeld s = false := by
  rw [reservationHeld, h]

/-- Settles O46: the lanes of a job, the composition into an entry, and the three ways a write with lanes to hold begins. -/
theorem heldWriteCommits : Obligations.HeldWriteCommits := by
  refine ⟨fun word lanes data i s => ⟨rfl, rfl, rfl, classifiedJob_lane s word lanes data i⟩,
    fun w i => ⟨?hold, fun h => ?inside, fun h => ?outside⟩, fun word i m u s => ?compose, fun e s => ?add,
    fun word i s => rfl, laneByte_restrict, fun word lanes data i s hidle hp hl hmark hi => ?engaged⟩
  case hold =>
    rw [hasLane_lanesToHold, ← Bool.not_eq_true, Transform.isIdentityOn_iff]
  case inside =>
    obtain ⟨hkeep, hflip⟩ := laneByte_restrict w.xf w.lanesToHold i
    rw [h] at hkeep hflip
    exact ⟨hkeep, hflip⟩
  case outside =>
    obtain ⟨hkeep, hflip⟩ := laneByte_restrict w.xf w.lanesToHold i
    rw [h] at hkeep hflip
    exact ⟨hkeep, hflip⟩
  case compose =>
    simp only [composeEntry, Bool.and_eq_true, beq_iff_eq, Entry.compose, Transform.andThen]
  case add => exact addEntry_eq e s
  case engaged =>
    intro w composedIn added leads hhold
    have hleads {t : State} (h : acceptEngaged w { s with sysAnswer := none } = t) : leads t := by
      show exec _ _ = _
      rw [exec_systemWrite_of_idle hidle word hl, ← h]
      exact congrArg _ (acceptWrite_of_engaged (s := { s with sysAnswer := none }) hp word lanes data)
    have hi' : openSlot { s with sysAnswer := none } = some i := (openSlot_congr rfl).trans hi
    have hneeds : needsPlace w { s with sysAnswer := none } = (findEntry word i s).isNone :=
      needsPlace_of_open hhold hi'
    have hplace : placeFree { s with sysAnswer := none } = true ↔ s.buf.entries.length < 1024 :=
      placeFree_iff (s := { s with sysAnswer := none }) (reservationHeld_of_idle hidle)
    have hnotClose : w.mark ≠ some .close := fun h => by cases hmark.symm.trans h
    refine ⟨fun e he => ?_, fun he hroom => ?_, fun he hfull => ?_⟩
    · have hnone : needsPlace w { s with sysAnswer := none } = false := by rw [hneeds, he]; rfl
      have hstep : acceptEngaged w { s with sysAnswer := none } = stepDestination w { s with sysAnswer := none } := by
        rw [acceptEngaged_of_no_place hnone hnotClose, otherMarkEffect_of_no_mark hmark]
      obtain ⟨hanswered, hread, hmemory⟩ := stepDestination_of_hold hhold (commit_composes (w := w) (e := e) hi' he)
      exact ⟨fun him => hleads (hstep.trans (hanswered him)), fun him hneed => hleads (hstep.trans (hread him hneed)),
        fun him hneed => hleads (hstep.trans (hmemory him hneed))⟩
    · have hstep := (acceptEngaged_of_place (hneeds.trans (by rw [he]; rfl))).1 (hplace.mpr hroom)
      have hcommit := commit_adds (w := { w with reserved := true }) (i := i)
        (s := setWrite { w with reserved := true } { s with sysAnswer := none }) hi' he (.inl rfl)
      rw [addEntry_eq] at hcommit
      obtain ⟨hanswered, hread, hmemory⟩ := stepDestination_of_hold (w := { w with reserved := true }) hhold hcommit
      exact ⟨fun him => hleads (hstep.trans (hanswered him)), fun him hneed => hleads (hstep.trans (hread him hneed)),
        fun him hneed => hleads (hstep.trans (hmemory him hneed))⟩
    · refine hleads ((acceptEngaged_of_place (hneeds.trans (by rw [he]; rfl))).2 ?_)
      rw [← Bool.not_eq_true, hplace]
      omega

end Sys2Proof.Machine
end

section
/-! PROOFS. Writes with nothing to hold and the stores to the three watched words (chapters 4, 5 and 8). -/

namespace Sys2Proof.Machine

/-! ### Writes with nothing to hold (R62, R68, R70) -/

theorem exec_immediateWriteResponse {s : State} {f : InFlight} {w : WriteJob} (hf : s.inFlight = some f)
    (hk : f.req.kind = .immediateWrite) (hw : s.sys = .write w) (reply : WriteReply) :
    exec (.immediateWriteResponse reply) s
      = .next (answerSystem (writeAnswer reply) (takeResponse f (writeFailed reply) s)) := by
  show execImmediateWriteResponse reply s = _
  rw [execImmediateWriteResponse, inFlightOf_some hf hk, hw]

/-- A write that holds nothing and is no mark takes its course at once, in ENGAGED and in QUIESCING. -/
theorem acceptWrite_of_no_hold {s : State} {word : WordAddr} {lanes : LaneMask}
    (hp : s.part = .engaged ∨ (s.part = .quiescing ∧ ¬someDeferrable s word lanes)) (hmark : markOf s.cfg word lanes = none)
    (data : Word) (hhold : (classifiedJob s word lanes data).lanesToHold = 0#4) :
    acceptWrite word lanes data s = stepDestination (classifiedJob s word lanes data) s := by
  have hother : otherMarkEffect (classifiedJob s word lanes data) s = s := otherMarkEffect_of_no_mark hmark s
  rcases hp with hp | ⟨hp, hd⟩
  · have hnotClose : (classifiedJob s word lanes data).mark ≠ some .close := fun h => by cases hmark.symm.trans h
    rw [acceptWrite_of_engaged hp, acceptEngaged_of_no_place (needsPlace_of_no_hold hhold s) hnotClose, hother]
  · rw [acceptWrite_of_not_deferrable hp hd, hother]

/-! ### The store of a watched word (R73) -/

/-- The effect of a full-word store outside the closes of ENGAGED, and then its memory write. -/
theorem acceptWrite_of_ordinaryWord {s : State} {word : WordAddr} {mark : Option MarkKind} (hword : ordinaryWord word s)
    (hmark : markOf s.cfg word 0xF = mark) (hclose : s.part = .engaged → mark ≠ some .close) (data : Word) :
    acceptWrite word 0xF data s
      = setWrite (plainStore word data mark (decide (s.part = .pass)))
          (otherMarkEffect (plainStore word data mark (decide (s.part = .pass))) s) := by
  have hjob : classifiedJob s word 0xF data = plainStore word data mark false := by
    rw [← hmark]
    exact classifiedJob_of_ordinaryWord hword data
  obtain ⟨hhold, himmediate, -⟩ := plainStore_lanes word data mark false
  cases hp : s.part with
  | pass =>
    have hplain : plainJob s word 0xF data = plainStore word data mark true := by
      rw [← hmark]
      exact plainJob_full s word data
    obtain ⟨-, himmediate, -⟩ := plainStore_lanes word data mark true
    rw [acceptWrite_of_pass hp, hplain, stepMemory_of_immediate himmediate]
    rfl
  | engaged =>
    rw [acceptWrite_of_engaged hp, hjob, acceptEngaged_of_no_place (needsPlace_of_no_hold hhold s) (hclose hp),
      stepDestination_plainStore]
    rfl
  | quiescing =>
    rw [acceptWrite_of_not_deferrable hp (not_someDeferrable_of_ordinaryWord hword 0xF), hjob, stepDestination_plainStore]
    rfl

theorem exec_markStore {s : State} {word : WordAddr} {k : MarkKind} (hidle : s.sys = .idle) (hword : ordinaryWord word s)
    (hmark : markOf s.cfg word 0xF = some k) (hclose : s.part = .engaged → k ≠ .close) (data : Word) :
    exec (.systemWrite word 0xF data) s
      = .next (setWrite (plainStore word data (some k) (decide (s.part = .pass)))
          (otherMarkEffect (plainStore word data (some k) (decide (s.part = .pass))) { s with sysAnswer := none })) := by
  rw [exec_systemWrite_of_idle hidle word (by decide)]
  exact congrArg _ (acceptWrite_of_ordinaryWord (s := { s with sysAnswer := none }) hword hmark
    (fun hp h => hclose hp (Option.some.inj h)) data)

theorem markOf_close {s : State} {m : Marks} (hm : s.cfg.marks = some m) : markOf s.cfg m.close 0xF = some .close :=
  (markOf_full hm m.close).trans (if_pos rfl)

theorem markOf_release {s : State} {m : Marks} (hm : s.cfg.marks = some m) (h : m.release ≠ m.close) :
    markOf s.cfg m.release 0xF = some .release :=
  (markOf_full hm m.release).trans ((if_neg h).trans (if_pos rfl))

theorem markOf_consumer {s : State} {m : Marks} (hm : s.cfg.marks = some m) (h : m.consumer ≠ m.close)
    (h' : m.consumer ≠ m.release) : markOf s.cfg m.consumer 0xF = some .consumer :=
  (markOf_full hm m.consumer).trans ((if_neg h).trans ((if_neg h').trans (if_pos rfl)))

/-! ### QUIESCING and memory's answer -/

/-- Settles O47: the read, the memory write or the answer, the memory word lane by lane, and the marks of QUIESCING. -/
theorem immediateWrites : Obligations.ImmediateWrites := by
  refine ⟨fun word lanes data s hidle hp hl hmark => ?course, fun w => ⟨needsDestination_iff w, fun i => ?lane⟩,
    markOf_none_iff, fun m data s hidle hp hm => ⟨fun hword => ?close, fun hne hword => ?release⟩,
    fun w f s hf hk hw => ?answered⟩
  case course =>
    intro w hhold
    have hstep : acceptWrite word lanes data { s with sysAnswer := none } = stepDestination w { s with sysAnswer := none } :=
      acceptWrite_of_no_hold (s := { s with sysAnswer := none }) hp hmark data hhold
    rw [exec_systemWrite_of_idle hidle word hl, hstep]
    refine ⟨fun _ hneed => ?_, fun him hneed => ?_, fun him => ?_⟩
    · rw [stepDestination_of_needed hneed]
      rfl
    · rw [stepDestination_of_not_needed hneed, stepCommit_of_no_hold hhold, stepMemory_of_immediate him]
      rfl
    · rw [stepDestination_of_not_needed (needsDestination_of_no_immediate him), stepCommit_of_no_hold hhold,
        stepMemory_of_no_immediate him]
      rfl
  case lane =>
    have hlane := laneByte_memoryData w i
    refine ⟨hasLane_immediateLanes w i, fun him hkeep => ?_, fun d him hd => ?_, fun him => ?_⟩
    · rw [hlane, him, hkeep, if_pos rfl, BitVec.and_zero, BitVec.zero_xor]
    · rw [hlane, him, hd, if_pos rfl]
      rfl
    · rw [hlane, him]
      rfl
  case close =>
    have hnotPass : decide (s.part = .pass) = false := decide_eq_false (by rw [hp]; decide)
    rw [exec_markStore hidle hword (markOf_close hm) (fun he => by cases hp.symm.trans he) data, hnotPass]
    rfl
  case release =>
    have hnotPass : decide (s.part = .pass) = false := decide_eq_false (by rw [hp]; decide)
    have hother : otherMarkEffect (plainStore m.release data (some .release) false) { s with sysAnswer := none }
        = { s with sysAnswer := none } :=
      otherMarkEffect_of_not_engaged (s := { s with sysAnswer := none }) (by rw [hp]; decide)
        (by simp only [plainStore]; decide)
    rw [exec_markStore hidle hword (markOf_release hm hne) (fun he => by cases hp.symm.trans he) data, hnotPass, hother]
    rfl
  case answered =>
    refine ⟨exec_immediateWriteResponse hf hk hw .ok, (exec_immediateWriteResponse hf hk hw .error).trans ?_⟩
    exact congrArg _ ((congrArg (answerSystem .error) (takeResponse_error f s)).trans (answerSystem_errorReported .error f _))

/-! ### The close word in ENGAGED (R86, R87, R88) -/

theorem closeAndOpen_of_free {s : State} {i j : SlotIx} (r : CloseReason) (hi : openSlot s = some i)
    (hj : freeSlot s = some j) : closeAndOpen r s = openBatch j (closeSlot r i s) := by
  unfold closeAndOpen
  rw [hi, hj]

theorem acceptClose_of_free {w : WriteJob} {s : State} {j : SlotIx} (h : freeSlot s = some j) :
    acceptClose w s = stepDestination w (engineTest (closeAndOpen (closeReasonOf w.data) s)) := by
  rw [acceptClose, h]
  rfl

theorem acceptClose_of_no_free {w : WriteJob} {s : State} (h : freeSlot s = none) :
    acceptClose w s = beginStall .slot (setWrite { w with phase := .waitSlot } s) := by
  rw [acceptClose, h]
  rfl

/-- Settles O48: the close at once, or the stall for a slot. -/
theorem closeStoreCloses : Obligations.CloseStoreCloses := by
  intro m data i s hidle hp hm hword hi hold closed
  have hjob : classifiedJob { s with sysAnswer := none } m.close 0xF data = plainStore m.close data (some .close) false := by
    rw [← markOf_close hm]
    exact classifiedJob_of_ordinaryWord (s := { s with sysAnswer := none }) hword data
  obtain ⟨hhold, -, -⟩ := plainStore_lanes m.close data (some .close) false
  have hi' : openSlot { s with sysAnswer := none } = some i := (openSlot_congr rfl).trans hi
  have hrun : exec (.systemWrite m.close 0xF data) s
      = .next (acceptClose (plainStore m.close data (some .close) false) { s with sysAnswer := none }) := by
    have hengaged : ({ s with sysAnswer := none } : State).part = .engaged := hp
    rw [exec_systemWrite_of_idle hidle m.close (by decide), acceptWrite_of_engaged hengaged, hjob,
      acceptEngaged_of_close (needsPlace_of_no_hold hhold _) rfl]
  refine ⟨fun j hj => ?_, fun hj => ?_⟩
  · have hj' : freeSlot { s with sysAnswer := none } = some j := (freeSlot_congr rfl).trans hj
    rw [hrun, acceptClose_of_free hj', closeAndOpen_of_free _ hi' hj', stepDestination_plainStore]
    rfl
  · have hj' : freeSlot { s with sysAnswer := none } = none := (freeSlot_congr rfl).trans hj
    rw [hrun, acceptClose_of_no_free hj']
    rfl

/-! ### The release word (R91) -/

theorem releaseOldest_of_some {s : State} {i : SlotIx} (h : oldestHeld s = some i) :
    releaseOldest s = { s with batch.slots := s.batch.slots.set i { slotOf i s with state := .closed } } := by
  obtain ⟨hheld, -⟩ := oldestHeld_some h
  have hlet : (slotOf i s).letGo = { slotOf i s with state := .closed } := if_pos hheld
  rw [releaseOldest, h, ← hlet]
  rfl

theorem releaseOldest_of_none {s : State} (h : oldestHeld s = none) : releaseOldest s = s := by
  rw [releaseOldest, h]

/-- Settles O49: the oldest HELD batch is let go and the engine tests; with none HELD the test finds what it found before. -/
theorem releaseStoreReleases : Obligations.ReleaseStoreReleases := by
  intro m data s hidle hp hm hne hword
  have hnotPass : decide (s.part = .pass) = false := decide_eq_false (by rw [hp]; decide)
  have hheld : oldestHeld { s with sysAnswer := none } = oldestHeld s := oldestHeld_congr rfl
  have hrun : exec (.systemWrite m.release 0xF data) s
      = .next (setWrite (plainStore m.release data (some .release) false)
          (engineTest (releaseOldest { s with sysAnswer := none }))) := by
    have hother : otherMarkEffect (plainStore m.release data (some .release) false) { s with sysAnswer := none }
        = engineTest (releaseOldest { s with sysAnswer := none }) := if_pos hp
    rw [exec_markStore hidle hword (markOf_release hm hne) (fun _ => by decide) data, hnotPass, hother]
  refine ⟨fun i hi => ?_, fun hno hchoice => ?_⟩
  · rw [hrun, releaseOldest_of_some (hheld.trans hi)]
    rfl
  · have hsame : startChoice { s with sysAnswer := none } = startChoice s := startChoice_congr rfl rfl rfl
    rw [hrun, releaseOldest_of_none (hheld.trans hno), engineTest_of_none (hsame.trans hchoice)]
    rfl

/-! ### The consumer word (R137, R141) -/

theorem testWriter_eq (s : State) :
    testWriter s =
      { s with recs.writer :=
          if s.recs.writer = .idle ∧ s.recs.records ≠ [] ∧ unread s < s.cfg.ringSize then .requested .word1
          else s.recs.writer } := by
  by_cases h : s.recs.writer = .idle ∧ s.recs.records ≠ [] ∧ unread s < s.cfg.ringSize
  · rw [testWriter, if_pos h, if_pos h]
  · rw [testWriter, if_neg h, if_neg h]

theorem snoopConsumer_of_room {n : Half} {s : State} (h : (s.recs.prod - n).toNat ≤ roomLimit s) :
    snoopConsumer n s = testWriter { s with recs.cons := n } :=
  if_pos h

theorem recordInProgress_iff (s : State) :
    recordInProgress s = true ↔
      (∃ w, s.recs.writer = .requested w) ∨ ∃ w, s.recs.writer = .inFlight w ∧ w ≠ .word0 := by
  unfold recordInProgress
  cases s.recs.writer with
  | idle => simp
  | requested w => simp
  | inFlight w => cases w <;> simp

/-- Settles O50: C takes the count where it is in range, and the writer tests; otherwise RING_ERR is raised. -/
theorem consumerStoreSnooped : Obligations.ConsumerStoreSnooped := by
  refine ⟨fun s => ⟨recordInProgress_iff s, rfl⟩, fun m data s hidle hm hne hne' hword => ?_⟩
  intro v limit job
  have hrun : exec (.systemWrite m.consumer 0xF data) s
      = .next (setWrite (plainStore m.consumer data (some .consumer) (decide (s.part = .pass)))
          (snoopConsumer v { s with sysAnswer := none })) :=
    exec_markStore hidle hword (markOf_consumer hm hne hne') (fun _ => by decide) data
  refine ⟨fun hroom => ?_, fun hfull => ?_⟩
  · rw [hrun, snoopConsumer_of_room (s := { s with sysAnswer := none }) hroom, testWriter_eq]
    rfl
  · rw [hrun, snoopConsumer_of_no_room (s := { s with sysAnswer := none }) hfull]
    rfl

end Sys2Proof.Machine
end

section
/-! PROOFS. The answer of memory to a destination read (chapter 5): the commit with its place, the stalls, and the write
completed as plain. -/

namespace Sys2Proof.Machine

theorem setWrite_errorReported (w : WriteJob) (f : InFlight) (s : State) :
    setWrite w (errorReported f s) = errorReported f (setWrite w s) := by
  unfold errorReported
  split <;> rfl

theorem exec_destinationReadResponse {s : State} {f : InFlight} {w : WriteJob} (hf : s.inFlight = some f)
    (hk : f.req.kind = .destinationRead) (hw : s.sys = .write w) (reply : ReadReply) :
    exec (.destinationReadResponse reply) s = .next (afterDestinationRead w reply (takeResponse f (readFailed reply) s)) := by
  show execDestinationReadResponse reply s = _
  rw [execDestinationReadResponse, inFlightOf_some hf hk, hw]

theorem afterDestinationRead_of_plain {w : WriteJob} (h : w.plain = true) (reply : ReadReply) (s : State) :
    afterDestinationRead w reply s = stepMemory { w with readData := none } s := by
  unfold afterDestinationRead
  exact if_pos h

theorem afterDestinationRead_of_error {w : WriteJob} (h : w.plain = false) (s : State) :
    afterDestinationRead w .error s = answerSystem .error s := by
  unfold afterDestinationRead
  rw [h]
  rfl

theorem afterDestinationRead_of_ok {w : WriteJob} (h : w.plain = false) (d : Word) (s : State) :
    afterDestinationRead w (.ok d) s = stepCommit { w with readData := some d } (setWrite { w with readData := some d } s) := by
  unfold afterDestinationRead
  rw [h]
  rfl

theorem commitWithoutSlot_of_quiescing {s : State} (h : s.part = .quiescing) (w : WriteJob) :
    commitWithoutSlot w s = beginStall .pass (setWrite { w with reserved := false, readData := none, phase := .waitPass } s) :=
  if_pos h

theorem completePlain_of_no_mark {w : WriteJob} (h : w.mark = none) (s : State) :
    completePlain w s = setWrite { w.asPlain with phase := .writeRequested } s := by
  have hnot : ¬w.mark = some .consumer := by rw [h]; decide
  exact if_neg hnot

theorem commitWithoutSlot_of_other {s : State} {w : WriteJob} (h : s.part ≠ .quiescing) (hm : w.mark = none) :
    commitWithoutSlot w s = setWrite { w.asPlain with phase := .writeRequested } s := by
  rw [commitWithoutSlot, if_neg h, completePlain_of_no_mark hm]

/-- The commit has no slot when none is OPEN or DISENGAGE has executed during the read (R44, R71). -/
theorem commitSlot_none {w : WriteJob} {s : State} (h : openSlot s = none ∨ w.leftEngaged = true) : commitSlot w s = none := by
  unfold commitSlot
  split
  · rfl
  · rename_i hl
    exact h.resolve_right hl

/-- Settles O51: the data goes into the commit, the commit into the memory write, and each refusal to its own wait. -/
theorem destinationReadAnswered : Obligations.DestinationReadAnswered := by
  intro w f d s hf hk hw answered stalls
  have herror {t : State} (h : afterDestinationRead w .error (errorReported f { s with inFlight := none }) = t) :
      exec (.destinationReadResponse .error) s = .next t := by
    rw [exec_destinationReadResponse hf hk hw .error, ← h, ← takeResponse_error f s]
    rfl
  have hok {t : State} (h : afterDestinationRead w (.ok d) { s with inFlight := none } = t) : answered t := by
    rw [← h]
    exact exec_destinationReadResponse hf hk hw (.ok d)
  have hstep (hplain : w.plain = false) {t : State}
      (h : stepCommit { w with readData := some d } (setWrite { w with readData := some d } { s with inFlight := none }) = t) :
      answered t :=
    hok ((afterDestinationRead_of_ok hplain d _).trans h)
  refine ⟨fun hplain => ?error, fun hplain hhold him => ?memory, fun hplain hhold him hleft i hi => ?commit,
    fun hplain hhold hnone => ?refused, fun hplain him => ⟨?plainOk, ?plainError⟩⟩
  case error =>
    refine herror ((afterDestinationRead_of_error hplain _).trans ?_)
    exact answerSystem_errorReported .error f _
  case memory =>
    refine hstep hplain ((stepCommit_of_no_hold (w := { w with readData := some d }) hhold _).trans ?_)
    exact stepMemory_of_immediate (w := { w with readData := some d }) him _
  case commit =>
    have hslot : commitSlot { w with readData := some d } (setWrite { w with readData := some d } { s with inFlight := none })
        = some i :=
      (commitSlot_engaged (w := { w with readData := some d }) hleft _).trans ((openSlot_congr rfl).trans hi)
    have hcommit {t : State}
        (h : commit { w with readData := some d } (setWrite { w with readData := some d } { s with inFlight := none }) = t) :
        answered t :=
      hstep hplain ((stepCommit_of_hold (w := { w with readData := some d }) hhold _).trans h)
    have hplace (hreserved : w.reserved = false) :
        placeFree (setWrite { w with readData := some d } { s with inFlight := none }) = true ↔ s.buf.entries.length < 1024 :=
      placeFree_iff (s := setWrite { w with readData := some d } { s with inFlight := none }) hreserved
    refine ⟨fun e he => hcommit ((commit_composes hslot he).trans ?_), fun he hroom => hcommit ?_,
      fun he hreserved hfull => hcommit ?_⟩
    · exact stepMemory_of_immediate (w := { w with readData := some d, reserved := false }) him _
    · refine (commit_adds hslot he ?_).trans
        (stepMemory_of_immediate (w := { w with readData := some d, reserved := false }) him _)
      by_cases hreserved : w.reserved = true
      · exact .inl hreserved
      · exact .inr ((hplace (Bool.not_eq_true _ ▸ hreserved)).mpr (hroom.resolve_left hreserved))
    · have hno : placeFree (setWrite { w with readData := some d } { s with inFlight := none }) = false := by
        rw [← Bool.not_eq_true, hplace hreserved]
        omega
      exact commit_waits hslot he hreserved hno
  case refused =>
    have hnoSlot : commitSlot { w with readData := some d } (setWrite { w with readData := some d } { s with inFlight := none })
        = none :=
      commitSlot_none (w := { w with readData := some d }) (hnone.imp_left fun h => (openSlot_congr rfl).trans h)
    have hrefused {t : State} (h : commitWithoutSlot { w with readData := some d }
        (setWrite { w with readData := some d } { s with inFlight := none }) = t) : answered t :=
      hstep hplain ((stepCommit_of_hold (w := { w with readData := some d }) hhold _).trans ((commit_refused hnoSlot).trans h))
    refine ⟨fun hp => hrefused ?_, fun hp hmark _ => hrefused ?_⟩
    · exact commitWithoutSlot_of_quiescing (s := setWrite { w with readData := some d } { s with inFlight := none }) hp _
    · exact commitWithoutSlot_of_other (w := { w with readData := some d })
        (s := setWrite { w with readData := some d } { s with inFlight := none }) hp hmark
  case plainOk =>
    refine hok ((afterDestinationRead_of_plain hplain (.ok d) _).trans ?_)
    exact stepMemory_of_immediate (w := { w with readData := none }) him _
  case plainError =>
    refine herror ((afterDestinationRead_of_plain hplain .error _).trans ?_)
    refine (stepMemory_of_immediate (w := { w with readData := none }) him _).trans ?_
    exact setWrite_errorReported _ f _

end Sys2Proof.Machine
end

section
/-! PROOFS. The arbiter (chapter 11): who waits, who is chosen, and what each grant changes. -/

namespace Sys2Proof.Machine

/-! ### Who waits (R105, R138, R146, R148) -/

theorem refreshRequest_isSome (s : State) :
    (refreshRequest s).isSome = true ↔ ∃ word lanes, s.refresh = .waiting word lanes := by
  unfold refreshRequest
  cases s.refresh with
  | idle => simp
  | waiting word lanes => simp
  | inFlight => simp

theorem recordRequest_isSome (s : State) :
    (recordRequest s).isSome = true ↔ s.recs.records ≠ [] ∧ ∃ w, s.recs.writer = .requested w := by
  unfold recordRequest
  cases s.recs.writer with
  | idle => simp
  | inFlight w => simp
  | requested w =>
    cases s.recs.records with
    | nil => simp
    | cons r rest => simp

theorem drainRequest_isSome (s : State) :
    (drainRequest s).isSome = true ↔
      s.drain.entry ≠ none ∧ (s.drain.access = .readRequested ∨ s.drain.access = .writeRequested) := by
  unfold drainRequest
  cases s.drain.entry with
  | none => simp
  | some e =>
    cases s.drain.access with
    | none => simp
    | readRequested => simp
    | writeRequested => simp
    | readInFlight => simp
    | writeInFlight => simp

theorem systemRequest_of_write {s : State} {w : WriteJob} (h : s.sys = .write w) :
    (systemRequest s).isSome = true ↔ w.phase = .destRequested ∨ w.phase = .writeRequested := by
  simp only [systemRequest, h]
  cases w.phase with
  | destRequested => simp
  | writeRequested => simp
  | waitPlace => simp
  | waitSlot => simp
  | waitPass => simp
  | destInFlight => simp
  | waitCommitPlace => simp
  | writeInFlight => simp

theorem systemRequest_isSome (s : State) :
    (systemRequest s).isSome = true ↔
      (∃ r, s.sys = .read r ∧ r.granted = false)
        ∨ ∃ w, s.sys = .write w ∧ (w.phase = .destRequested ∨ w.phase = .writeRequested) := by
  cases h : s.sys with
  | idle => simp [systemRequest, h]
  | read r => cases hr : r.granted <;> simp [systemRequest, h, hr]
  | write w =>
    rw [systemRequest_of_write h]
    simp

/-! ### Who is chosen (R152, R153) -/

theorem choose_of_refresh {s : State} (h : (refreshRequest s).isSome = true) : choose s = some .refresh := if_pos h

theorem choose_of_patience {s : State} (hf : (refreshRequest s).isSome = false) (hr : (recordRequest s).isSome = true)
    (hw : 32 ≤ s.waits.record) : choose s = some .record := by
  have hdue : ((recordRequest s).isSome && decide (Config.recordPatience ≤ s.waits.record)) = true := by
    rw [hr, Bool.true_and]
    exact decide_eq_true hw
  rw [choose, hf, if_neg Bool.false_ne_true, if_pos hdue]

theorem choose_of_side {s : State} (hf : (refreshRequest s).isSome = false)
    (hr : (recordRequest s).isSome = false ∨ s.waits.record < 32) :
    choose s = (chooseSide s).or (if (recordRequest s).isSome then some .record else none) := by
  have hnot : ((recordRequest s).isSome && decide (Config.recordPatience ≤ s.waits.record)) = false := by
    rcases hr with hr | hr
    · rw [hr, Bool.false_and]
    · have hlow : decide (Config.recordPatience ≤ s.waits.record) = false := decide_eq_false (Nat.not_le.mpr hr)
      rw [hlow, Bool.and_false]
  rw [choose, hf, if_neg Bool.false_ne_true, hnot, if_neg Bool.false_ne_true]
  cases chooseSide s <;> rfl

theorem drainPreferred_iff (s : State) : drainPreferred s = true ↔ s.cfg.source = .immediate ∨ s.sync.blanking = some true := by
  simp only [drainPreferred, Bool.or_eq_true, beq_iff_eq]

/-- The side of the drain engine and the system path by the two requests and the preference. -/
theorem chooseSide_cases (s : State) :
    ((drainRequest s).isSome = true → (systemRequest s).isSome = false → chooseSide s = some .drain)
      ∧ ((drainRequest s).isSome = false → (systemRequest s).isSome = true → chooseSide s = some .system)
      ∧ ((drainRequest s).isSome = true → (systemRequest s).isSome = true → drainPreferred s = true →
          chooseSide s = if s.cfg.share.toNat ≤ s.waits.system then some .system else some .drain)
      ∧ ((drainRequest s).isSome = true → (systemRequest s).isSome = true → drainPreferred s = false →
          chooseSide s = if s.cfg.share.toNat ≤ s.waits.drain then some .drain else some .system)
      ∧ ((drainRequest s).isSome = false → (systemRequest s).isSome = false → chooseSide s = none) := by
  unfold chooseSide
  refine ⟨fun hd hs => ?_, fun hd hs => ?_, fun hd hs hp => ?_, fun hd hs hp => ?_, fun hd hs => ?_⟩
  · rw [hd, hs]
  · rw [hd, hs]
  · rw [hd, hs, hp]
    rfl
  · rw [hd, hs, hp]
    rfl
  · rw [hd, hs]

theorem or_of_eq_ite {α : Type} {o o' : Option α} {r r' : α} {p : Prop} [Decidable p]
    (h : o = if p then some r else some r') : o.or o' = if p then some r else some r' := by
  subst h
  by_cases hp : p
  · rw [if_pos hp]
    rfl
  · rw [if_neg hp]
    rfl

/-- Settles O53: the four requests, and the order among them. -/
theorem arbiterOrder : Obligations.ArbiterOrder := by
  refine ⟨fun s => ⟨refreshRequest_isSome s, recordRequest_isSome s, drainRequest_isSome s, systemRequest_isSome s⟩,
    fun s => ?_⟩
  intro fresh recd drn sysq preferDrain
  refine ⟨choose_of_refresh, choose_of_patience, fun hf hr => ?_⟩
  have hside := choose_of_side hf hr
  obtain ⟨hdrain, hsystem, hprefer, hnot, hnone⟩ := chooseSide_cases s
  refine ⟨fun hd hs => ?_, fun hd hs => ?_, fun hd hs hp => ?_, fun hd hs hp => ?_, fun hd hs => ?_⟩
  · rw [hside, hdrain hd hs, Option.some_or]
  · rw [hside, hsystem hd hs, Option.some_or]
  · exact hside.trans (or_of_eq_ite (hprefer hd hs ((drainPreferred_iff s).mpr hp)))
  · refine hside.trans (or_of_eq_ite (hnot hd hs ?_))
    rw [← Bool.not_eq_true, drainPreferred_iff]
    exact hp
  · rw [hside, hnone hd hs, Option.none_or]

/-! ### The grants (R150, R151, R154) -/

/-- The request of a requester. -/
def requestOf (r : Requester) (s : State) : Option MemRequest :=
  match r with
  | .refresh => refreshRequest s
  | .record => recordRequest s
  | .drain => drainRequest s
  | .system => systemRequest s

theorem systemRequest_kind {s : State} {q : MemRequest} (h : systemRequest s = some q) : q.kind.requester = .system := by
  unfold systemRequest at h
  split at h
  · cases h
  · split at h
    · cases h
    · cases h; rfl
  · split at h
    · cases h; rfl
    · cases h; rfl
    all_goals cases h

theorem requestOf_requester {r : Requester} {s : State} {q : MemRequest} (h : requestOf r s = some q) :
    q.kind.requester = r := by
  cases r with
  | refresh => rw [refreshRequest_kind h]; rfl
  | record => rw [recordRequest_kind h]; rfl
  | drain => rcases drainRequest_kind h with hk | hk <;> rw [hk] <;> rfl
  | system => exact systemRequest_kind h

/-- The one chosen has a request waiting. -/
theorem requestOf_choose {r : Requester} {s : State} (h : choose s = some r) : (requestOf r s).isSome = true := by
  unfold choose at h
  split at h
  · rename_i hf
    cases h
    exact hf
  · split at h
    · rename_i hr
      cases h
      exact (Bool.and_eq_true _ _ ▸ hr).1
    · have hside : ∀ r', chooseSide s = some r' → (requestOf r' s).isSome = true := by
        intro r' hr'
        unfold chooseSide at hr'
        split at hr'
        · cases hr'
        · rename_i hd hs
          cases hr'
          exact hd
        · rename_i hd hs
          cases hr'
          exact hs
        · rename_i hd hs
          split at hr' <;> split at hr' <;> cases hr'
          · exact hs
          · exact hd
          · exact hd
          · exact hs
      split at h
      · rename_i r' hr'
        cases h
        exact hside _ hr'
      · split at h
        · rename_i hr
          cases h
          exact hr
        · cases h

theorem grantTo_refresh {s : State} {q : MemRequest} (h : refreshRequest s = some q) :
    grantTo .refresh s = grantRefresh (putInFlight q { s with waits := waitsAfter .refresh s }) := by
  simp only [grantTo, h]

theorem grantTo_record {s : State} {q : MemRequest} (h : recordRequest s = some q) :
    grantTo .record s = grantRecord (putInFlight q { s with waits := waitsAfter .record s }) := by
  simp only [grantTo, h]

theorem grantTo_system {s : State} {q : MemRequest} (h : systemRequest s = some q) :
    grantTo .system s = grantSystem (putInFlight q { s with waits := waitsAfter .system s }) := by
  simp only [grantTo, h]

/-- A grant puts the request in flight and changes the wait counts. -/
theorem grantTo_port {r : Requester} {s : State} {q : MemRequest} (h : requestOf r s = some q) :
    (grantTo r s).inFlight = some { req := q, cutOff := !s.resetn } ∧ (grantTo r s).waits = waitsAfter r s := by
  have hport {t u : State} (ho : outer t = outer u) : t.inFlight = u.inFlight ∧ t.waits = u.waits := by
    obtain ⟨-, -, -, -, -, -, -, hwaits, hflight, -⟩ := outer_fields ho
    exact ⟨hflight, hwaits⟩
  cases r with
  | refresh => rw [grantTo_refresh h]; exact ⟨rfl, rfl⟩
  | record => rw [grantTo_record h]; exact hport (outer_grantRecord _)
  | drain => rw [grantTo_drain h]; exact hport (outer_grantDrain _)
  | system => rw [grantTo_system h]; exact hport (outer_grantSystem _)

theorem waitsAfter_fields (r : Requester) (s : State) :
    (waitsAfter r s).record
        = (if r = .record then 0 else if (recordRequest s).isSome then countUp s.waits.record else s.waits.record)
      ∧ (waitsAfter r s).drain
        = (if r = .drain then 0
            else if r = .system ∧ (drainRequest s).isSome = true then countUp s.waits.drain else s.waits.drain)
      ∧ (waitsAfter r s).system
        = (if r = .system then 0
            else if r = .drain ∧ (systemRequest s).isSome = true then countUp s.waits.system else s.waits.system) := by
  cases r with
  | refresh => simp [waitsAfter]
  | record => simp [waitsAfter]
  | drain => simp [waitsAfter]
  | system => simp [waitsAfter]

theorem systemRequest_of_phase {s : State} {w : WriteJob} (hw : s.sys = .write w) :
    (w.phase = .destRequested →
        systemRequest s = some { kind := .destinationRead, word := w.word, lanes := 0xF, data := 0 })
      ∧ (w.phase = .writeRequested →
        systemRequest s
          = some { kind := .immediateWrite, word := w.word, lanes := w.immediateLanes, data := w.memoryData }) := by
  refine ⟨fun hp => ?_, fun hp => ?_⟩
  · simp only [systemRequest, hw, hp]
    rfl
  · simp only [systemRequest, hw, hp]

theorem grantSystem_of_read {s : State} {r : ReadJob} (h : s.sys = .read r) :
    grantSystem s =
      { s with sys := .read { r with granted := true,
                                     snapshot := if r.forwarded then composed r.word s else Transform.identity } } := by
  simp only [grantSystem, h]

theorem grantDrain_of_read {s : State} {i : SlotIx} {e : Entry} (hi : s.drain.current = some i)
    (he : s.drain.entry = some e) (ha : s.drain.access = .readRequested) :
    grantDrain s = { s with drain.access := .readInFlight } := by
  simp only [grantDrain, hi, he, ha, reduceCtorEq, if_false]

theorem grantSystem_of_write {s : State} {w : WriteJob} (hw : s.sys = .write w) :
    (w.phase = .destRequested → grantSystem s = setWrite { w with phase := .destInFlight } s)
      ∧ (w.phase = .writeRequested → grantSystem s = setWrite { w with phase := .writeInFlight } s) := by
  refine ⟨fun hp => ?_, fun hp => ?_⟩
  · simp only [grantSystem, hw, hp]
  · simp only [grantSystem, hw, hp]

/-- Settles O54: the port and the counts of every grant, and the change each requester's grant makes. -/
theorem grantsOfEveryRequester : Obligations.GrantsOfEveryRequester := by
  refine ⟨fun s => ⟨fun f hf => ?busy, fun hf hc => ?noOne, fun r hf hc => ?every⟩,
    fun s hf => ⟨fun word lanes hc hr => ?refresh, fun r hc hs hg => ?read, fun w hc hs hp => ?destination,
      fun w hc hs hp => ?memory, fun i e hc hi he ha => ?drain⟩, fun n => rfl⟩
  case busy =>
    show execArbiterGrant s = _
    rw [execArbiterGrant, hf]
  case noOne =>
    show execArbiterGrant s = _
    rw [execArbiterGrant, hf, hc]
  case every =>
    obtain ⟨q, hq⟩ := Option.isSome_iff_exists.mp (requestOf_choose hc)
    obtain ⟨hflight, hwaits⟩ := grantTo_port hq
    obtain ⟨hrecord, hdrain, hsystem⟩ := waitsAfter_fields r s
    refine ⟨grantTo r s, q, exec_arbiterGrant_of_choose hf hc, hflight, ?_, requestOf_requester hq, grantTo_cfg r s,
      grantTo_part r s, ?_⟩
    · cases r <;> exact hq
    · rw [hwaits]
      exact ⟨hrecord, hdrain, hsystem⟩
  case refresh =>
    have hq : refreshRequest s = some { kind := .refreshRead, word := word, lanes := lanes, data := 0 } := by
      simp only [refreshRequest, hr]
    rw [exec_arbiterGrant_of_choose hf hc, grantTo_refresh hq]
    rfl
  case read =>
    have hq : systemRequest s = some { kind := .systemRead, word := r.word, lanes := 0xF, data := 0 } := by
      simp only [systemRequest, hs, hg]
      rfl
    have hsame : composed r.word (putInFlight { kind := .systemRead, word := r.word, lanes := 0xF, data := 0 }
        { s with waits := waitsAfter .system s }) = composed r.word s :=
      composed_congr (s := putInFlight _ { s with waits := waitsAfter .system s }) (t := s) rfl rfl r.word
    have hgrant := grantSystem_of_read (s := putInFlight { kind := .systemRead, word := r.word, lanes := 0xF, data := 0 }
      { s with waits := waitsAfter .system s }) hs
    rw [hsame] at hgrant
    rw [exec_arbiterGrant_of_choose hf hc, grantTo_system hq, hgrant]
    rfl
  case destination =>
    rw [exec_arbiterGrant_of_choose hf hc, grantTo_system ((systemRequest_of_phase hs).1 hp)]
    exact congrArg _ ((grantSystem_of_write (s := putInFlight _ { s with waits := waitsAfter .system s }) hs).1 hp)
  case memory =>
    rw [exec_arbiterGrant_of_choose hf hc, grantTo_system ((systemRequest_of_phase hs).2 hp)]
    exact congrArg _ ((grantSystem_of_write (s := putInFlight _ { s with waits := waitsAfter .system s }) hs).2 hp)
  case drain =>
    have hq : drainRequest s = some { kind := .drainRead, word := e.word, lanes := 0xF, data := 0 } := by
      simp only [drainRequest, he, ha]
      rfl
    rw [exec_arbiterGrant_of_choose hf hc, grantTo_drain hq]
    exact congrArg _ (grantDrain_of_read (s := putInFlight _ { s with waits := waitsAfter .drain s }) hi he ha)

end Sys2Proof.Machine
end

section
/-! PROOFS. The grant of a drain write and the place it frees (chapters 3, 5 and 9). -/

namespace Sys2Proof.Machine

/-! ### The entry leaves, and the batch may become TORN (R51, R107, R109) -/

theorem Four.set_set {α : Type} (f : Four α) (i : Fin 4) (a b : α) : (f.set i a).set i b = f.set i b := by
  match i with
  | 0 | 1 | 2 | 3 => rfl

theorem modSlot_modSlot (i : SlotIx) (f g : Slot → Slot) (s : State) :
    modSlot i g (modSlot i f s) = modSlot i (fun b => g (f b)) s := by
  have hslot : slotOf i (modSlot i f s) = f (slotOf i s) := slotOf_modSlot_same i f s
  have hslots : ((s.batch.slots.set i (f (slotOf i s))).set i (g (f (slotOf i s)))) = s.batch.slots.set i (g (f (slotOf i s))) :=
    Four.set_set _ _ _ _
  show setSlot i (g (slotOf i (modSlot i f s))) (modSlot i f s) = _
  rw [hslot]
  exact congrArg (fun slots => { s with batch.slots := slots }) hslots

/-- The granted write outside blanking under a BLANK source, where the batch is not TORN yet. -/
theorem drainedState_of_torn {s : State} {i : SlotIx} (e : Entry) (hsource : s.cfg.source ≠ .immediate)
    (hblank : s.sync.blanking ≠ some true) (htorn : (slotOf i s).torn = false) :
    drainedState i e s =
      removeEntry e.word i (modCounters Counters.addTorn (raise .torn
        (modSlot i (fun b => { b with entriesDrained := b.entriesDrained + 1, torn := true })
          { s with drain.access := .writeInFlight }))) := by
  have hkept : (slotOf i (countDrained i { s with drain.access := .writeInFlight })).torn = false := by
    rw [countDrained, slotOf_modSlot_same]
    exact htorn
  rw [drainedState, tornTest, if_pos ⟨hsource, hblank, hkept⟩, countDrained, modSlot_modSlot]

theorem drainedState_of_not_torn {s : State} {i : SlotIx} (e : Entry)
    (h : s.cfg.source = .immediate ∨ s.sync.blanking = some true ∨ (slotOf i s).torn = true) :
    drainedState i e s =
      removeEntry e.word i (modSlot i (fun b => { b with entriesDrained := b.entriesDrained + 1 })
        { s with drain.access := .writeInFlight }) := by
  have hkept : (slotOf i (countDrained i { s with drain.access := .writeInFlight })).torn = (slotOf i s).torn := by
    rw [countDrained, slotOf_modSlot_same]
    rfl
  have hnot : ¬(s.cfg.source ≠ .immediate ∧ s.sync.blanking ≠ some true
      ∧ (slotOf i (countDrained i { s with drain.access := .writeInFlight })).torn = false) := by
    rintro ⟨hsource, hblank, htorn⟩
    rw [hkept] at htorn
    rcases h with h | h | h
    · exact hsource h
    · exact hblank h
    · rw [htorn] at h
      cases h
  rw [drainedState, tornTest]
  exact congrArg _ (if_neg hnot)

/-- What the granted write leaves and what it changes besides the batch's TORN, with the slot it is a slot of. -/
theorem drainedState_frame (i : SlotIx) (e : Entry) (s : State) :
    ∃ (torn : Bool) (ev : EventUnit),
      drainedState i e s =
        { s with
          buf.entries := s.buf.entries.filter fun x => !(x.word == e.word && x.slot == i)
          drain.access := .writeInFlight
          batch.slots := s.batch.slots.set i
            { slotOf i s with entriesDrained := (slotOf i s).entriesDrained + 1, torn := torn }
          ev := ev }
        ∧ (s.cfg.source = .immediate ∨ s.sync.blanking = some true ∨ (slotOf i s).torn = true →
            torn = (slotOf i s).torn ∧ ev = s.ev)
        ∧ (s.cfg.source ≠ .immediate → s.sync.blanking ≠ some true → (slotOf i s).torn = false →
            torn = true ∧ ev = { s.ev with
              flags := s.ev.flags ||| 0x02, counters.tornBatches := countUp s.ev.counters.tornBatches }) := by
  by_cases h : s.cfg.source = .immediate ∨ s.sync.blanking = some true ∨ (slotOf i s).torn = true
  · refine ⟨(slotOf i s).torn, s.ev, drainedState_of_not_torn e h, fun _ => ⟨rfl, rfl⟩, fun hsource hblank htorn => ?_⟩
    rw [htorn] at h
    exact absurd h (by simp [hsource, hblank])
  · obtain ⟨hsource, hrest⟩ := not_or.mp h
    obtain ⟨hblank, htorn⟩ := not_or.mp hrest
    exact ⟨true, _, drainedState_of_torn e hsource hblank (Bool.not_eq_true _ ▸ htorn), fun hc => absurd hc h,
      fun _ _ _ => ⟨rfl, rfl⟩⟩

/-! ### The data of a drain write (R105, R106) -/

theorem laneByte_drainData (e : Entry) (readData : Option Word) (i : LaneIx) :
    laneByte (drainData e readData) i =
      if hasLane e.lanes i then (laneByte (readData.getD 0) i &&& laneByte e.xf.keep i) ^^^ laneByte e.xf.flip i
      else 0x00 := by
  rw [drainData, laneByte_and, laneByte_laneBits, and_fillByte, laneByte_apply]
  rfl

/-! ### A freed place (R40, R66) -/

theorem placeFreed_of_no_place {s : State} (h : placeFree s = false) : placeFreed s = s := by
  rw [placeFreed, h]
  rfl

theorem placeFreed_of_waiting {s : State} {w : WriteJob} (hw : s.sys = .write w) (hplace : placeFree s = true) :
    (w.phase = .waitPlace →
        placeFreed s = stepDestination { w with reserved := true } (endStall (setWrite { w with reserved := true } s)))
      ∧ (w.phase = .waitCommitPlace →
        placeFreed s = stepCommit { w with reserved := true } (endStall (setWrite { w with reserved := true } s))) := by
  refine ⟨fun hp => ?_, fun hp => ?_⟩
  · simp only [placeFreed, hplace, if_true, hw, hp]
  · simp only [placeFreed, hplace, if_true, hw, hp]

/-- Settles O55: the write leaves the buffer with its batch's counts, and the place goes to the write that waits. -/
theorem drainWriteGrantAndFreedPlace : Obligations.DrainWriteGrantAndFreedPlace := by
  refine ⟨fun i e s hf hc hi he ha => ?grant, fun e readData i => ?data, fun s => ⟨?used, ?free, placeFreed_of_no_place⟩,
    fun s => placeFreed_of_waitsForNoPlace, fun w i s hw hplace hi hleft hhold hfind => ?waiting⟩
  case grant =>
    obtain ⟨torn, ev, heq, hkept, htorn⟩ := drainedState_frame i e (drainWriteAsked e s)
    have hslot := Four.get_set_same s.batch.slots i
      { slotOf i s with entriesDrained := (slotOf i s).entriesDrained + 1, torn := torn }
    have hmark := congrArg Slot.torn hslot
    have hstate := congrArg Slot.state hslot
    rw [exec_arbiterGrant_of_choose hf hc, grantTo_drainWrite hi he ha, heq]
    refine ⟨_, rfl, rfl, rfl, rfl, rfl, congrArg Slot.entriesDrained hslot, fun hcalm => ?_, fun hsource hblank hnot => ?_,
      fun halready => (hkept (.inr (.inr halready))).2, hstate, fun j hj => Four.get_set_ne _ _ hj,
      rfl, rfl, rfl, rfl, rfl, rfl, rfl, ?_⟩
    · obtain ⟨h1, h2⟩ := hkept (hcalm.imp_right .inl)
      exact ⟨hmark.trans h1, h2⟩
    · obtain ⟨h1, h2⟩ := htorn hsource hblank hnot
      exact ⟨hmark.trans h1, congrArg EventUnit.flags h2, congrArg (fun x => x.counters.tornBatches) h2⟩
    · exact hslot.trans (congrArg
        (fun x => { slotOf i s with entriesDrained := (slotOf i s).entriesDrained + 1, torn := x }) hmark.symm)
  case data =>
    have hlane := laneByte_drainData e readData i
    refine ⟨fun hl => ?_, fun hl hkeep => ?_, fun d hl hd => ?_⟩
    · rw [hlane, hl]
      rfl
    · rw [hlane, hl, hkeep, if_pos rfl, BitVec.and_zero, BitVec.zero_xor]
    · rw [hlane, hl, hd, if_pos rfl]
      rfl
  case used =>
    unfold placesUsed reservationHeld
    cases s.sys <;> rfl
  case free =>
    rw [placeFree, decide_eq_true_eq]
    rfl
  case waiting =>
    intro ended added committed
    have hcommit : stepCommit { w with reserved := true } (endStall (setWrite { w with reserved := true } s)) = committed := by
      have hslot : commitSlot { w with reserved := true } (endStall (setWrite { w with reserved := true } s)) = some i :=
        (commitSlot_engaged (w := { w with reserved := true }) hleft _).trans ((openSlot_congr rfl).trans hi)
      have hadds := commit_adds (w := { w with reserved := true }) hslot hfind (.inl rfl)
      rw [addEntry_eq] at hadds
      exact (stepCommit_of_hold (w := { w with reserved := true }) hhold _).trans hadds
    obtain ⟨hwaits, hcommits⟩ := placeFreed_of_waiting hw hplace
    refine ⟨fun hp => ⟨fun hneed => ?_, fun hneed => ?_⟩, fun hp => (hcommits hp).trans hcommit⟩
    · exact (hwaits hp).trans (stepDestination_of_needed (w := { w with reserved := true }) hneed _)
    · exact (hwaits hp).trans ((stepDestination_of_not_needed (w := { w with reserved := true }) hneed _).trans hcommit)

end Sys2Proof.Machine
end

section
/-! PROOFS. The words of a record (chapter 8): their grants and the answers to them. -/

namespace Sys2Proof.Machine

theorem recordRequest_of_head {s : State} {w : RecWord} {r : Rec} {rest : List Rec} (hw : s.recs.writer = .requested w)
    (hr : s.recs.records = r :: rest) :
    recordRequest s = some { kind := .recordWrite, word := recordWordAddr s w, lanes := 0xF, data := recordData s r w } := by
  simp only [recordRequest, hw, hr, List.head?_cons]
  rfl

theorem grantRecord_of_requested {s : State} {w : RecWord} (h : s.recs.writer = .requested w) :
    grantRecord s =
      if w = .word0 then grantWord0 { s with recs.writer := .inFlight w } else { s with recs.writer := .inFlight w } := by
  simp only [grantRecord, h]

theorem afterRecordWrite_of_next {s : State} {w w' : RecWord} (h : s.recs.writer = .inFlight w) (hn : w.next = some w') :
    afterRecordWrite s = { s with recs.writer := .requested w' } := by
  simp only [afterRecordWrite, h, hn]

/-- After word 0 the writer is idle and tests (R137). -/
theorem afterRecordWrite_of_last {s : State} (h : s.recs.writer = .inFlight .word0) :
    afterRecordWrite s =
      { s with recs.writer :=
          if s.recs.records ≠ [] ∧ (s.recs.prod - s.recs.cons).toNat < s.cfg.ringSize then .requested .word1 else .idle } := by
  have hlast : afterRecordWrite s = testWriter { s with recs.writer := .idle } := by
    simp only [afterRecordWrite, h, RecWord.next]
  rw [hlast, testWriter_eq]
  simp only [true_and]
  rfl

theorem exec_recordWriteResponse {s : State} {f : InFlight} (hf : s.inFlight = some f) (hk : f.req.kind = .recordWrite)
    (reply : WriteReply) :
    exec (.recordWriteResponse reply) s
      = if f.cutOff then .next (takeResponse f (writeFailed reply) s)
        else .next (afterRecordWrite (takeResponse f (writeFailed reply) s)) := by
  show execRecordWriteResponse reply s = _
  rw [execRecordWriteResponse, inFlightOf_some hf hk]

theorem errorReported_inFlight (f : InFlight) (s : State) :
    errorReported f { s with inFlight := none } = { errorReported f s with inFlight := none } := by
  unfold errorReported
  split <;> rfl

theorem takeResponse_failed (f : InFlight) (s : State) : takeResponse f true s = { errorReported f s with inFlight := none } :=
  (takeResponse_error f s).trans (errorReported_inFlight f s)

theorem errorReported_recs (f : InFlight) (s : State) :
    (errorReported f s).recs = s.recs ∧ (errorReported f s).cfg = s.cfg := by
  unfold errorReported
  split <;> exact ⟨rfl, rfl⟩

/-- The answers to a word whose request no reset has cut off (R138, R140). -/
theorem recordWriteResponse_of_live {s : State} {f : InFlight} (hf : s.inFlight = some f) (hk : f.req.kind = .recordWrite)
    (hcut : f.cutOff = false) :
    exec (.recordWriteResponse .ok) s = .next (afterRecordWrite { s with inFlight := none })
      ∧ exec (.recordWriteResponse .error) s = .next (afterRecordWrite { errorReported f s with inFlight := none }) := by
  have hlive (reply : WriteReply) : exec (.recordWriteResponse reply) s
      = .next (afterRecordWrite (takeResponse f (writeFailed reply) s)) := by
    rw [exec_recordWriteResponse hf hk reply, hcut, if_neg Bool.false_ne_true]
  have htaken : takeResponse f (writeFailed .error) s = { errorReported f s with inFlight := none } := takeResponse_failed f s
  rw [hlive .ok, hlive .error, htaken]
  exact ⟨rfl, rfl⟩

/-- The error of a request that a reset cut off is not reported (R159). -/
theorem errorReported_of_cutOff {f : InFlight} (h : f.cutOff = true) (s : State) : errorReported f s = s := if_pos h

/-- Settles O56: each word with its place and its data, and the writer's next step after it. -/
theorem recordWordsWritten : Obligations.RecordWordsWritten := by
  refine ⟨fun w r rest s hf hc hw hr => ?grant, fun f s hf hk => ⟨fun hcut w w' hw hnext => ?next, fun hcut hw => ?last,
    fun hcut reply => ?cut⟩⟩
  case grant =>
    intro flags granted asked
    have hrun : exec .arbiterGrant s = .next (grantRecord (putInFlight
        { kind := .recordWrite, word := recordWordAddr s w, lanes := 0xF, data := recordData s r w }
        { s with waits := waitsAfter .record s })) := by
      rw [exec_arbiterGrant_of_choose hf hc, grantTo_record (recordRequest_of_head hw hr)]
    have hstep := grantRecord_of_requested (s := putInFlight
        { kind := .recordWrite, word := recordWordAddr s w, lanes := 0xF, data := recordData s r w }
        { s with waits := waitsAfter .record s }) hw
    rw [hrun, hstep]
    refine ⟨fun h => ?_, fun h => ?_, fun h => ?_, fun h => ?_⟩
    · subst h
      rfl
    · subst h
      rfl
    · subst h
      rfl
    · subst h
      have htail : s.recs.records.tail = rest := by rw [hr]; rfl
      rw [← htail]
      rfl
  case next =>
    have hword : w.next = some w' := by
      rcases hnext with ⟨rfl, rfl⟩ | ⟨rfl, rfl⟩ | ⟨rfl, rfl⟩ <;> rfl
    obtain ⟨hok, herror⟩ := recordWriteResponse_of_live hf hk hcut
    have hw' : (errorReported f s).recs.writer = .inFlight w := by rw [(errorReported_recs f s).1, hw]
    rw [hok, herror]
    exact ⟨congrArg _ (afterRecordWrite_of_next (s := { s with inFlight := none }) hw hword),
      congrArg _ (afterRecordWrite_of_next (s := { errorReported f s with inFlight := none }) hw' hword)⟩
  case last =>
    intro after
    obtain ⟨hok, herror⟩ := recordWriteResponse_of_live hf hk hcut
    obtain ⟨hrecs, hcfg⟩ := errorReported_recs f s
    have hw' : (errorReported f s).recs.writer = .inFlight .word0 := by rw [hrecs, hw]
    have hafter : (if (errorReported f s).recs.records ≠ []
          ∧ ((errorReported f s).recs.prod - (errorReported f s).recs.cons).toNat < (errorReported f s).cfg.ringSize
        then Writer.requested .word1 else .idle) = after := by rw [hrecs, hcfg]
    rw [hok, herror]
    refine ⟨congrArg _ (afterRecordWrite_of_last (s := { s with inFlight := none }) hw), congrArg _ ?_⟩
    refine (afterRecordWrite_of_last (s := { errorReported f s with inFlight := none }) hw').trans ?_
    exact congrArg (fun x => { errorReported f s with inFlight := none, recs.writer := x }) hafter
  case cut =>
    have hanswer := exec_recordWriteResponse hf hk reply
    rw [hcut, if_pos rfl] at hanswer
    rw [hanswer]
    cases reply with
    | ok => rfl
    | error => exact congrArg _ ((takeResponse_error f s).trans (errorReported_of_cutOff hcut _))

end Sys2Proof.Machine
end

section
/-! PROOFS. The start of a batch, its entries and the answers of memory to the drain engine (chapters 8 and 9). -/

namespace Sys2Proof.Machine

/-! ### Slots and their queue (R76, R79, R80, R81) -/

theorem Four.get_set {α : Type} (f : Four α) (i k : Fin 4) (b : α) : (f.set i b).get k = if k = i then b else f.get k := by
  by_cases h : k = i
  · subst h
    rw [if_pos rfl, Four.get_set_same]
  · rw [if_neg h, Four.get_set_ne f b h]

theorem oldestNonOpenWithEntry_some {s : State} {i : SlotIx} (h : oldestNonOpenWithEntry s = some i) :
    ((slotState i s ≠ .free ∧ slotState i s ≠ .opened) ∧ ∃ e ∈ s.buf.entries, e.slot = i)
      ∧ ∀ k, (slotState k s ≠ .free ∧ slotState k s ≠ .opened) ∧ (∃ e ∈ s.buf.entries, e.slot = k) →
        slotAge k s ≤ slotAge i s := by
  obtain ⟨⟨hmem, hhas⟩, hall⟩ :=
    find_first (r := fun a b => slotAge b s ≤ slotAge a s) (fun _ => Nat.le_refl _) _ (nonOpenQueue_sorted s) h
  exact ⟨⟨(mem_nonOpenQueue i s).mp hmem, (slotHasEntries_iff i s).mp hhas⟩,
    fun k ⟨hk, he⟩ => hall k ((mem_nonOpenQueue k s).mpr hk) ((slotHasEntries_iff k s).mpr he)⟩

theorem oldestNonOpenWithEntry_none {s : State} (h : oldestNonOpenWithEntry s = none) (k : SlotIx) :
    ¬((slotState k s ≠ .free ∧ slotState k s ≠ .opened) ∧ ∃ e ∈ s.buf.entries, e.slot = k) := fun ⟨hk, he⟩ =>
  List.find?_eq_none.mp h k ((mem_nonOpenQueue k s).mpr hk) ((slotHasEntries_iff k s).mpr he)

theorem freeSlot_lowest {s : State} :
    (∀ i, freeSlot s = some i → slotState i s = .free ∧ ∀ k, slotState k s = .free → i ≤ k)
      ∧ (freeSlot s = none → ∀ k, slotState k s ≠ .free) := by
  refine ⟨fun i h => ?_, fun h k => ?_⟩
  · obtain ⟨hp, hall⟩ := lowestSlot_some h
    exact ⟨beq_iff_eq.mp hp, fun k hk => hall k (beq_iff_eq.mpr hk)⟩
  · exact beq_eq_false_iff_ne.mp (lowestSlot_none.mp h k)

theorem openSlot_lowest {s : State} :
    (∀ i, openSlot s = some i → slotState i s = .opened ∧ ∀ k, slotState k s = .opened → i ≤ k)
      ∧ (openSlot s = none → ∀ k, slotState k s ≠ .opened) := by
  refine ⟨fun i h => ?_, openSlot_none.mp⟩
  obtain ⟨hp, hall⟩ := lowestSlot_some h
  exact ⟨beq_iff_eq.mp hp, fun k hk => hall k (beq_iff_eq.mpr hk)⟩

/-! ### The start of a batch (R103, R104, R126) -/

/-- The condition of R103 on the oldest batch, without the horizon. -/
def startsAlone (i : SlotIx) (s : State) : Prop :=
  slotState i s = .closed ∧ (inDrainSet (slotOf i s).sequence s = true ∨ s.cfg.source = .immediate)

theorem startChoice_of_oldest {s : State} {i : SlotIx} (hc : s.drain.current = none) (hi : oldestNonOpen s = some i) :
    (startsAlone i s → startChoice s = some (i, false))
      ∧ (¬startsAlone i s → (slotState i s = .closed ∨ slotState i s = .held)
          ∧ inHorizon (slotOf i s).sequence s = true → startChoice s = some (i, true))
      ∧ (¬startsAlone i s → ¬((slotState i s = .closed ∨ slotState i s = .held)
          ∧ inHorizon (slotOf i s).sequence s = true) → startChoice s = none) := by
  unfold startChoice
  rw [hc, hi]
  exact ⟨fun h => if_pos h, fun h hforced => (if_neg h).trans (if_pos hforced), fun h hno => (if_neg h).trans (if_neg hno)⟩

theorem startChoice_oldest {s : State} {i : SlotIx} {forced : Bool} (h : startChoice s = some (i, forced)) :
    s.drain.current = none ∧ oldestNonOpen s = some i := by
  refine ⟨(startChoice_some h).1, ?_⟩
  unfold startChoice at h
  split at h
  · cases h
  · split at h
    · cases h
    · rename_i k hk
      dsimp only at h
      split at h
      · cases h
        exact hk
      · split at h
        · cases h
          exact hk
        · cases h

theorem startChoice_iff (i : SlotIx) (forced : Bool) (s : State) :
    startChoice s = some (i, forced) ↔
      s.drain.current = none ∧ oldestNonOpen s = some i
        ∧ (forced = false ∧ startsAlone i s
          ∨ forced = true ∧ ¬startsAlone i s ∧ (slotState i s = .closed ∨ slotState i s = .held)
            ∧ inHorizon (slotOf i s).sequence s = true) := by
  constructor
  · intro h
    obtain ⟨hc, hi⟩ := startChoice_oldest h
    obtain ⟨halone, hforced, hnone⟩ := startChoice_of_oldest hc hi
    refine ⟨hc, hi, ?_⟩
    by_cases hs : startsAlone i s
    · rw [halone hs] at h
      cases h
      exact .inl ⟨rfl, hs⟩
    · by_cases hf : (slotState i s = .closed ∨ slotState i s = .held) ∧ inHorizon (slotOf i s).sequence s = true
      · rw [hforced hs hf] at h
        cases h
        exact .inr ⟨rfl, hs, hf⟩
      · rw [hnone hs hf] at h
        cases h
  · rintro ⟨hc, hi, ⟨rfl, hs⟩ | ⟨rfl, hs, hf⟩⟩
    · exact (startChoice_of_oldest hc hi).1 hs
    · exact (startChoice_of_oldest hc hi).2.1 hs hf

theorem startBatch_forced (i : SlotIx) (s : State) :
    startBatch i true s =
      { s with
        batch.slots := s.batch.slots.set i
          { slotOf i s with state := .draining, frameAtStart := s.sync.frameCounter, forced := true }
        drain := { s.drain with current := some i, ticks := 0, entry := none, access := .none, readData := none }
        ev.flags := s.ev.flags ||| 0x04
        ev.counters.forcedBatches := countUp s.ev.counters.forcedBatches } := by
  have hmarked : markForced i (modSlot i (fun b => { b with state := .draining, frameAtStart := s.sync.frameCounter }) s)
      = modCounters Counters.addForced (raise .forced
          (modSlot i (fun b => { b with state := .draining, frameAtStart := s.sync.frameCounter, forced := true }) s)) := by
    rw [markForced, modSlot_modSlot]
  rw [startBatch, if_pos rfl]
  exact congrArg (fun t : State => { t with drain.current := some i, drain.ticks := 0, drain.entry := none,
                                            drain.access := .none, drain.readData := none }) hmarked

/-- Settles O57: the queue's order, the choice of R103, and the start with and without FORCED. -/
theorem batchesStart : Obligations.BatchesStart := by
  refine ⟨fun f i k b s => ⟨rfl, rfl, Four.get_set f i k b⟩, fun s => ?queue, fun i forced s => startChoice_iff i forced s,
    fun s => engineTest_of_none, fun i forced e s hc he => ?entry, fun i s => ⟨rfl, startBatch_forced i s⟩⟩
  case queue =>
    intro age ageOf nonOpen picks
    refine ⟨⟨fun i => mem_queueOrder i s, queueOrder_nodup s, queueOrder_sorted s⟩, fun word => rfl,
      ⟨fun i h => ?_, fun h => oldestNonOpen_none.mp h⟩, ⟨fun i h => ?_, fun h => youngestNonOpen_none.mp h⟩,
      ⟨fun i h => oldestHeld_some h, fun h => oldestHeld_none.mp h⟩,
      ⟨fun i h => oldestNonOpenWithEntry_some h, fun h => oldestNonOpenWithEntry_none h⟩, freeSlot_lowest, openSlot_lowest,
      fun q => inDrainSet_iff q s, fun q => inHorizon_iff q s⟩
    · obtain ⟨hi, hall⟩ := oldestNonOpen_some h
      exact ⟨hi, fun k hk => hall k hk.1 hk.2⟩
    · obtain ⟨hi, hall⟩ := youngestNonOpen_some h
      exact ⟨hi, fun k hk => hall k hk.1 hk.2⟩
  case entry => exact engineTest_of_entry hc he

/-! ### The entries of a batch (R105) -/

theorem takeEntry_of_determined {e : Entry} (h : e.xf.keep &&& laneBits e.lanes = 0#32) (i : SlotIx) (s : State) :
    takeEntry i e s = { s with drain.entry := some e, drain.access := .writeRequested, drain.readData := none } := by
  have hno : e.xf.needsRead e.lanes = false := bne_eq_false_iff_eq.mpr h
  rw [takeEntry, hno]
  rfl

theorem takeEntry_of_dependent {e : Entry} (h : e.xf.keep &&& laneBits e.lanes ≠ 0#32) (i : SlotIx) (s : State) :
    takeEntry i e s =
      { s with
        drain.entry := some e
        drain.access := .readRequested
        drain.readData := none
        batch.slots := s.batch.slots.set i { slotOf i s with rmwCount := (slotOf i s).rmwCount + 1 } } := by
  have hneeds : e.xf.needsRead e.lanes = true := bne_iff_ne.mpr h
  rw [takeEntry, hneeds]
  rfl

theorem nextEntry_of_some {s : State} {i : SlotIx} {e : Entry} (h : oldestEntry i s = some e) :
    nextEntry i s = takeEntry i e s := by
  rw [nextEntry, h]

theorem nextEntry_of_none {s : State} {i : SlotIx} (h : oldestEntry i s = none) :
    nextEntry i s = engineTest (completeBatch i s) := by
  rw [nextEntry, h]

/-! ### The answers of memory (R52, R107, R108, R115) -/

theorem errorReported_kept (f : InFlight) (s : State) :
    (errorReported f s).batch = s.batch ∧ (errorReported f s).drain = s.drain ∧ (errorReported f s).buf = s.buf := by
  unfold errorReported
  split <;> exact ⟨rfl, rfl, rfl⟩

/-- The answer to a request that a reset cut off frees the port and does no more (R115, R159). -/
theorem takeResponse_of_cutOff {f : InFlight} (h : f.cutOff = true) (failed : Bool) (s : State) :
    takeResponse f failed s = { s with inFlight := none } := by
  cases failed with
  | false => rfl
  | true => rw [takeResponse_failed, errorReported_of_cutOff h]

theorem exec_drainWriteResponse_of_cutOff {s : State} {f : InFlight} (hf : s.inFlight = some f)
    (hk : f.req.kind = .drainWrite) (hcut : f.cutOff = true) (reply : WriteReply) :
    exec (.drainWriteResponse reply) s = .next { s with inFlight := none } := by
  show execDrainWriteResponse reply s = _
  rw [execDrainWriteResponse, inFlightOf_some hf hk]
  dsimp only
  rw [if_pos hcut, takeResponse_of_cutOff hcut]

theorem exec_drainWriteResponse_of_live {s : State} {f : InFlight} {i : SlotIx} (hf : s.inFlight = some f)
    (hk : f.req.kind = .drainWrite) (hcut : f.cutOff = false) (hi : s.drain.current = some i) (reply : WriteReply) :
    exec (.drainWriteResponse reply) s = .next (afterDrainWrite i reply (takeResponse f (writeFailed reply) s)) := by
  obtain ⟨-, -, hdrain⟩ := batchView_fields (batchView_takeResponse f (writeFailed reply) s)
  show execDrainWriteResponse reply s = _
  rw [execDrainWriteResponse, inFlightOf_some hf hk]
  dsimp only
  rw [hcut, if_neg Bool.false_ne_true, hdrain, hi]

theorem exec_drainReadResponse_of_cutOff {s : State} {f : InFlight} (hf : s.inFlight = some f)
    (hk : f.req.kind = .drainRead) (hcut : f.cutOff = true) (reply : ReadReply) :
    exec (.drainReadResponse reply) s = .next { s with inFlight := none } := by
  show execDrainReadResponse reply s = _
  rw [execDrainReadResponse, inFlightOf_some hf hk]
  dsimp only
  rw [if_pos hcut, takeResponse_of_cutOff hcut]

theorem exec_drainReadResponse_of_live {s : State} {f : InFlight} {i : SlotIx} {e : Entry} (hf : s.inFlight = some f)
    (hk : f.req.kind = .drainRead) (hcut : f.cutOff = false) (hi : s.drain.current = some i) (he : s.drain.entry = some e)
    (reply : ReadReply) :
    exec (.drainReadResponse reply) s = .next (afterDrainRead i e reply (takeResponse f (readFailed reply) s)) := by
  obtain ⟨-, -, hdrain⟩ := batchView_fields (batchView_takeResponse f (readFailed reply) s)
  show execDrainReadResponse reply s = _
  rw [execDrainReadResponse, inFlightOf_some hf hk]
  dsimp only
  rw [hcut, if_neg Bool.false_ne_true, hdrain, hi, he]

/-- The slot record of a batch whose access memory answered with ERROR (R108). -/
def failedSlot (b : Slot) : Slot :=
  { b with memErr := true, memErrors := if b.memErrors < 255 then b.memErrors + 1 else b.memErrors }

theorem modSlot_errorReported (i : SlotIx) (g : Slot → Slot) (f : InFlight) (s : State) :
    modSlot i g { errorReported f s with inFlight := none }
      = { errorReported f s with inFlight := none, batch.slots := s.batch.slots.set i (g (slotOf i s)) } := by
  have hslots : (errorReported f s).batch.slots.set i (g ((errorReported f s).batch.slots.get i))
      = s.batch.slots.set i (g (slotOf i s)) := by
    rw [(errorReported_kept f s).1]
    rfl
  exact congrArg (fun slots => { errorReported f s with inFlight := none, batch.slots := slots }) hslots

/-- Settles O58: the choice between read and write by the keep bits, and the answers to the write. -/
theorem entriesTakenAndDrainWriteAnswered : Obligations.EntriesTakenAndDrainWriteAnswered := by
  refine ⟨fun i s => rfl, fun i e s => ⟨fun h => takeEntry_of_determined h i s, fun h => takeEntry_of_dependent h i s⟩,
    fun i f s hf hk hi => ⟨fun hcut => exec_drainWriteResponse_of_live hf hk hcut hi .ok, fun hcut => ?error,
      fun e => nextEntry_of_some, nextEntry_of_none⟩,
    fun f r s hf hk hcut => exec_drainWriteResponse_of_cutOff hf hk hcut r⟩
  case error =>
    intro b
    have hfailed : drainError i (takeResponse f true s)
        = { errorReported f s with inFlight := none, batch.slots := s.batch.slots.set i b } := by
      rw [takeResponse_failed]
      exact modSlot_errorReported i failedSlot f s
    rw [exec_drainWriteResponse_of_live hf hk hcut hi .error, ← hfailed]
    rfl

/-- Settles O59: the answers to the read of an entry. -/
theorem drainReadAnswered : Obligations.DrainReadAnswered := by
  refine ⟨fun i e f d s hf hk hi he => ⟨fun hcut => exec_drainReadResponse_of_live hf hk hcut hi he (.ok d), fun hcut => ?error⟩,
    fun f r s hf hk hcut => exec_drainReadResponse_of_cutOff hf hk hcut r⟩
  case error =>
    intro b
    have hcounted : countDrained i (drainError i (takeResponse f true s))
        = { errorReported f s with inFlight := none, batch.slots := s.batch.slots.set i b } := by
      rw [takeResponse_failed, countDrained, drainError, modSlot_modSlot]
      exact modSlot_errorReported i
        (fun b => { failedSlot b with entriesDrained := b.entriesDrained + 1 }) f s
    have hentries : (errorReported f s).buf.entries.filter (fun x => !(x.word == e.word && x.slot == i))
        = s.buf.entries.filter fun x => !(x.word == e.word && x.slot == i) := by
      rw [(errorReported_kept f s).2.2]
    have hremoved : removeEntry e.word i (countDrained i (drainError i (takeResponse f true s)))
        = { errorReported f s with
            inFlight := none
            batch.slots := s.batch.slots.set i b
            buf.entries := s.buf.entries.filter fun x => !(x.word == e.word && x.slot == i) } := by
      rw [hcounted, ← hentries]
      rfl
    rw [exec_drainReadResponse_of_live hf hk hcut hi he .error, ← hremoved]
    rfl

end Sys2Proof.Machine
end

section
/-! PROOFS. The completion of a batch and what a freed slot brings about (chapters 8, 9 and 10). -/

namespace Sys2Proof.Machine

/-! ### The record of a completing batch (R110, R134, R136) -/

theorem pushRecord_eq (r : Rec) (s : State) :
    pushRecord r s =
      { s with
        recs := if decide (s.recs.records.length < 4) then { s.recs with
            records := s.recs.records ++ [r]
            writer := if s.recs.writer = .idle ∧ (s.recs.prod - s.recs.cons).toNat < s.cfg.ringSize
              then .requested .word1 else s.recs.writer }
          else { s.recs with lost := if s.recs.lost < 255 then s.recs.lost + 1 else s.recs.lost }
        ev.flags := if decide (s.recs.records.length < 4) then s.ev.flags else s.ev.flags ||| 0x10
        ev.counters.recordsLost := if decide (s.recs.records.length < 4) then s.ev.counters.recordsLost
          else countUp s.ev.counters.recordsLost } := by
  by_cases hroom : s.recs.records.length < 4
  · have hpushed : pushRecord r s = testWriter { s with recs.records := s.recs.records ++ [r] } := if_pos hroom
    have hne : s.recs.records ++ [r] ≠ [] := List.append_ne_nil_of_right_ne_nil _ (List.cons_ne_nil r [])
    rw [hpushed, testWriter_eq, decide_eq_true hroom]
    simp only [hne, ne_eq, not_false_eq_true, true_and, if_true]
    rfl
  · have hdropped : pushRecord r s = modCounters Counters.addLost
        (raise .lost { s with recs.lost := satInc Config.byteLimit s.recs.lost }) := if_neg hroom
    rw [hdropped, decide_eq_false hroom]
    rfl

theorem pushRecord_modSlot (r : Rec) (i : SlotIx) (g : Slot → Slot) (s : State) :
    pushRecord r (modSlot i g s) = modSlot i g (pushRecord r s) := by
  rw [pushRecord_eq, pushRecord_eq]
  rfl

/-- The state at which the slot of a completing batch is FREE, in terms of the state before. -/
theorem freedState_eq (i : SlotIx) (s : State) :
    freedState i s =
      modSlot i (fun b => { b with drainTime := s.drain.ticks, state := .free })
        (modCounters Counters.addDrained (pushRecord { slotOf i s with drainTime := s.drain.ticks }.toRec s)) := by
  have hslot : slotOf i (modSlot i (fun b => { b with drainTime := s.drain.ticks }) s)
      = { slotOf i s with drainTime := s.drain.ticks } := slotOf_modSlot_same _ _ _
  have hmoved : freedState i s = modSlot i (fun b => { b with state := .free })
      (modSlot i (fun b => { b with drainTime := s.drain.ticks })
        (modCounters Counters.addDrained (pushRecord { slotOf i s with drainTime := s.drain.ticks }.toRec s))) := by
    simp only [freedState, hslot, pushRecord_modSlot]
    rfl
  rw [hmoved, modSlot_modSlot]

/-! ### QUIESCING ends (R70, R171) -/

theorem slotFreed_of_quiescing {s : State} (h : s.part = .quiescing) :
    slotFreed s = if allFree s then enterPass s else s := by
  rw [slotFreed, h]

theorem enterPass_of_no_wait {s : State} (h : ∀ w, s.sys = .write w → w.phase ≠ .waitPass) :
    enterPass s = raise .quiesced { s with part := .pass } := by
  unfold enterPass
  dsimp only
  split
  · rename_i w hw
    exact if_neg (h w hw)
  · rfl
  · rfl

theorem enterPass_of_wait {s : State} {w : WriteJob} (hw : s.sys = .write w) (hp : w.phase = .waitPass) :
    enterPass s = completePlain w (endStall (raise .quiesced { s with part := .pass })) := by
  have hsys : (raise .quiesced { s with part := .pass }).sys = .write w := hw
  unfold enterPass
  dsimp only
  rw [hsys]
  exact if_pos hp

/-! ### A freed slot in ENGAGED (R88, R125, R128, R129) -/

theorem waitingClose_of_waitSlot {s : State} {w : WriteJob} (hw : s.sys = .write w) (hp : w.phase = .waitSlot) :
    waitingClose s = some w := by
  simp only [waitingClose, hw, if_pos hp]

theorem waitingClose_none {s : State} (h : ∀ w, s.sys = .write w → w.phase ≠ .waitSlot) : waitingClose s = none := by
  unfold waitingClose
  split
  · rename_i w hw
    exact if_neg (h w hw)
  · rfl
  · rfl

theorem slotFreed_of_waitingClose {s : State} {w : WriteJob} (hp : s.part = .engaged) (h : waitingClose s = some w) :
    slotFreed s = takeWaitingClose w s := by
  rw [slotFreed, hp]
  dsimp only
  rw [h]

theorem slotFreed_of_no_close {s : State} (hp : s.part = .engaged) (h : waitingClose s = none) :
    slotFreed s =
      if s.batch.pendingClose then closeAndForce .command { s with batch.pendingClose := false }
      else if forceCloseDue s then closeAndForce .force s else s := by
  rw [slotFreed, hp]
  dsimp only
  rw [h]

theorem forceCloseDue_iff (s : State) :
    forceCloseDue s = true ↔
      s.stall.active = true ∧ s.stall.forceCloseOwed = true ∧ openSlot s ≠ none ∧ oldestNonOpen s = none := by
  rw [forceCloseDue, Bool.and_eq_true, Bool.and_eq_true, Bool.and_eq_true, Option.isSome_iff_ne_none, List.isEmpty_iff,
    and_assoc, and_assoc, oldestNonOpen, List.head?_eq_none_iff]

/-- The horizon reaches a batch younger than the one it names. -/
theorem extendHorizon_of_younger {s : State} {q : Half} (h : ∀ k, s.drain.horizon = some k → age q s < age k s) :
    extendHorizon q s = { s with drain.horizon := some q } := by
  cases hh : s.drain.horizon with
  | none => exact extendHorizon_of_none q hh
  | some k => rw [extendHorizon_of_some q hh, if_pos (h k hh)]

/-- A forcing close of a batch younger than the horizon. -/
theorem closeAndForce_of_younger {s : State} {i j : SlotIx} (r : CloseReason) (hi : openSlot s = some i)
    (hj : freeSlot s = some j)
    (hyounger : ∀ h, s.drain.horizon = some h →
      (s.batch.seqCounter + 1 - (slotOf i s).sequence).toNat < (s.batch.seqCounter + 1 - h).toNat) :
    closeAndForce r s =
      { s with
        batch.slots := (s.batch.slots.set i ((slotOf i s).close r s.sync.frameCounter)).set j (freshSlot s.batch.seqCounter)
        batch.seqCounter := s.batch.seqCounter + 1
        drain.horizon := some (slotOf i s).sequence
        stall.forceCloseOwed := false } := by
  rw [closeAndForce_of_free r hi hj, extendHorizon_of_younger (s := openBatch j (closeSlot r i s)) hyounger]
  rfl

/-- Settles O60: the record, the freed slot and the idle engine, and the three parties that a freed slot serves in turn. -/
theorem batchCompletesAndQuiescingEnds : Obligations.BatchCompletesAndQuiescingEnds := by
  refine ⟨fun b => rfl, fun s => ⟨allFree_iff s, forceCloseDue_iff s⟩, fun i s => ?completion,
    fun s hp => ⟨fun hbusy => ?busy, fun hfree hno => ?quiesced, fun w hfree hw hphase hmark => ?waiting⟩,
    fun s hp => ⟨fun hno hpending hdue => ?nothing, fun i j hi hj => ?engaged⟩⟩
  case completion =>
    intro b room freed t cleared
    have hfreed : freedState i s = freed := by
      rw [freedState_eq, pushRecord_eq]
      rfl
    rw [completeBatch_eq, hfreed]
    rfl
  case busy => rw [slotFreed_of_quiescing hp, hbusy, if_neg Bool.false_ne_true]
  case quiesced =>
    rw [slotFreed_of_quiescing hp, if_pos hfree, enterPass_of_no_wait hno]
    rfl
  case waiting =>
    rw [slotFreed_of_quiescing hp, if_pos hfree, enterPass_of_wait hw hphase, completePlain_of_no_mark hmark]
    rfl
  case nothing =>
    rw [slotFreed_of_no_close hp (waitingClose_none hno), hpending, if_neg Bool.false_ne_true, hdue,
      if_neg Bool.false_ne_true]
  case engaged =>
    intro q older reopened
    refine ⟨fun w hw hphase hneed hhold him => ?_, fun hno hyounger => ⟨fun hpending => ?_, fun hpending hactive howed hnone => ?_⟩⟩
    · intro hold
      rw [slotFreed_of_waitingClose hp (waitingClose_of_waitSlot hw hphase), takeWaitingClose,
        closeAndOpen_of_free _ hi hj, stepDestination_of_not_needed hneed, stepCommit_of_no_hold hhold,
        stepMemory_of_immediate him]
      rfl
    · have hi' : openSlot { s with batch.pendingClose := false } = some i := hi
      have hj' : freeSlot { s with batch.pendingClose := false } = some j := hj
      rw [slotFreed_of_no_close hp (waitingClose_none hno), if_pos hpending,
        closeAndForce_of_younger .command hi' hj' hyounger]
      rfl
    · have hdue : forceCloseDue s = true :=
        (forceCloseDue_iff s).mpr ⟨hactive, howed, by rw [hi]; exact Option.some_ne_none i, hnone⟩
      rw [slotFreed_of_no_close hp (waitingClose_none hno), hpending, if_neg Bool.false_ne_true, if_pos hdue,
        closeAndForce_of_younger .force hi hj hyounger]
      rfl

end Sys2Proof.Machine
end

section
/-! PROOFS. The step and the state after a pin reset (chapter 12). -/

namespace Sys2Proof.Machine

/-- Settles O1: the two cases of the queue. -/
theorem stepRunsFrontCommand : Obligations.StepRunsFrontCommand := by
  refine ⟨fun c rest s => rfl, fun s h => ?_⟩
  rw [step, h]

/-! ### The invariants at reset -/

theorem slotOf_reset (i : SlotIx) : slotOf i State.reset = Slot.cleared := by
  revert i
  decide

theorem slotState_reset (i : SlotIx) : slotState i State.reset = .free := by rw [slotState, slotOf_reset]; rfl

theorem mem_entries_reset {e : Entry} (h : e ∈ State.reset.buf.entries) : False := List.not_mem_nil h

theorem bufferWf_reset : bufferWf State.reset := ⟨fun _ h => (mem_entries_reset h).elim, List.Pairwise.nil⟩

theorem capacityWf_reset : capacityWf State.reset := ⟨Nat.zero_le _, Nat.le_refl 0, Nat.zero_le _⟩

theorem recordQueueWf_reset : recordQueueWf State.reset := ⟨Nat.zero_le _, fun h => Bool.noConfusion h⟩

theorem ringRoomWf_reset : ringRoomWf State.reset := ⟨.inl rfl, Nat.zero_le _, fun h => Bool.noConfusion h⟩

/-- With every slot FREE no slot is OPEN and none is DRAINING. -/
theorem batchesWf_reset : batchesWf State.reset := by
  refine (batchesWf_iff _).mpr ⟨(oneOpen_iff _).mpr ⟨none, fun i => ?_, by decide⟩, fun i => ?_, fun _ => slotState_reset⟩
  · rw [slotState_reset]
    exact iff_of_false SlotState.noConfusion (Option.some_ne_none i).symm
  · rw [slotState_reset]
    exact iff_of_false SlotState.noConfusion (Option.some_ne_none i).symm

theorem windowsLegal_reset : windowsLegal State.reset := fun i => by
  rw [windowAt_reset rfl]
  decide

theorem windowsApart_reset : windowsApart State.reset := fun i h => by
  rw [windowAt_reset rfl] at h
  cases h

theorem settingsWf_reset : settingsWf State.reset := by
  refine ⟨?_, ?_, ?_, ?_⟩ <;> decide

theorem countersWf_reset : countersWf State.reset := by
  refine ⟨?_, ?_, ?_, ?_, ?_, ?_, ?_, ?_⟩ <;> exact Nat.zero_le _

theorem countsWf_reset : countsWf State.reset := by
  refine ⟨?_, ?_, ?_, ?_, ?_⟩ <;> exact Nat.zero_le _

theorem entriesPlaced_reset : entriesPlaced State.reset := ⟨fun _ h => (mem_entries_reset h).elim, fun _ => rfl⟩

theorem entriesApart_reset : entriesApart State.reset := by
  refine ⟨fun _ h => (mem_entries_reset h).elim, fun w h => ?_, fun f h => ?_⟩
  · cases h
  · cases h

/-- Settles O2: the reset values, and that each invariant holds of them. -/
theorem resetState : Obligations.ResetState := by
  refine ⟨?values, ?records, bufferWf_reset, capacityWf_reset, recordQueueWf_reset, ringRoomWf_reset, batchesWf_reset,
    windowsLegal_reset, windowsApart_reset, settingsWf_reset, countersWf_reset, countsWf_reset, fun h => ?timer,
    entriesPlaced_reset, entriesApart_reset⟩
  case values =>
    exact ⟨rfl, windowAt_reset rfl, rfl, rfl, rfl, rfl, rfl, rfl, rfl, rfl, rfl, rfl, rfl, rfl, rfl, slotOf_reset, rfl, rfl, rfl,
      rfl, rfl, rfl, rfl, rfl, rfl, rfl, rfl, rfl, rfl, rfl, rfl, rfl⟩
  case records => exact ⟨rfl, rfl, rfl, rfl, rfl, rfl, rfl, rfl⟩
  case timer => cases h

end Sys2Proof.Machine
end
